-- ==== Sys2Proof/Word.lean ====
section
/-! DEFINITION. The word types of XSCORE (00_scope.md R6): 64-bit words, the 6-bit cursor, the 4-bit error code, and
the state array of SMAX = 64 words. Arithmetic on words is that of BitVec: `+` and `*` modulo 2^64, `^^^`, `&&&`, `|||`,
and the logical shifts `<<<` and `>>>` (R9). -/

namespace Sys2Proof

/-- A 64-bit unsigned word: every state word, seed, output, register and polynomial word (R6, R8). -/
abbrev Word := BitVec 64

/-- The rotating-buffer cursor P, 6 bits wide (R6, R105). -/
abbrev Cursor := BitVec 6

/-- The state array S of SMAX = 64 words (R6, R102). -/
abbrev StateArray := Vector Word 64

end Sys2Proof
end

