-- ==== Sys2Proof/Syntax.lean ====
section
/-! DEFINITION. The eleven commands of XSCORE, one constructor per row of spec/opcode_table.json (30_encoding.md R301,
R306). An operand is the number an assembly line writes; WellFormed.lean says which numbers its field can hold. -/

namespace Sys2Proof

/-- A command (R301). -/
inductive Instr where
  /-- NOP, OP 0x0 (47_commands.md R501). -/
  | nop
  /-- SEED v, OP 0x1: v is the VAR field, 0 to 15 (R502). -/
  | seed (v : Nat)
  /-- NEXT, OP 0x2 (R503). -/
  | next
  /-- NEXTI63, OP 0x3 (R504). -/
  | nexti63
  /-- JUMP, OP 0x4 (46_jump.md R465). -/
  | jump
  /-- ROTL k, OP 0x5: k is the IDX field, 0 to 63 (40_bitrotate.md R401). -/
  | rotl (k : Nat)
  /-- RDSTATE i, OP 0x6: i is the IDX field, 0 to 63 (R505). -/
  | rdstate (i : Nat)
  /-- WRSTATE i, OP 0x7: i is the IDX field, 0 to 63 (R506). -/
  | wrstate (i : Nat)
  /-- RDCUR, OP 0x8 (R507). -/
  | rdcur
  /-- WRCUR, OP 0x9 (R508). -/
  | wrcur
  /-- CLRSTAT, OP 0xA (R509). -/
  | clrstat
  deriving DecidableEq, Repr

end Sys2Proof
end

