-- ==== Sys2Proof/WellFormed.lean ====
section
/-! DEFINITION. Which commands can be encoded: an operand fits its field (30_encoding.md R302, R306: "An assembler
refuses an operand outside its field's range"). A SEED of variant 14 or 15 IS well formed: it decodes as SEED and raises
BAD_VARIANT at execution (R302). -/

namespace Sys2Proof

/-- Every operand is in its field's range: v in 0..15, k and i in 0..63 (R306). -/
def Instr.wellFormed : Instr → Bool
  | .seed v => v < 16
  | .rotl k => k < 64
  | .rdstate i => i < 64
  | .wrstate i => i < 64
  | .nop => true
  | .next => true
  | .nexti63 => true
  | .jump => true
  | .rdcur => true
  | .wrcur => true
  | .clrstat => true

end Sys2Proof
end

