-- ==== Sys2Proof/Decode.lean ====
section
/-! DEFINITION. The decoder of a 64-bit CMD value (30_encoding.md R300 to R305), table driven: one row per opcode with
its mask and match, as R301 lists them, with bits [63:32] zero in every row. Total: a value no row selects is not a
command (`none`), which the engine reports as ILLEGAL_CMD. Then the encoder (R306), the legality conditions of R303
written on their own, and the two views the host's table check uses. -/

namespace Sys2Proof

/-- The OP field, bits [3:0] (R300). -/
def opField (c : Word) : Nat := (c.extractLsb' 0 4).toNat

/-- The VAR field, bits [7:4] (R300). -/
def varField (c : Word) : Nat := (c.extractLsb' 4 4).toNat

/-- The IDX field, bits [13:8]: unsigned, zero-extended (R300, R302). -/
def idxField (c : Word) : Nat := (c.extractLsb' 8 6).toNat

/-- One row of the opcode map (R301): the bits that select it, and the command it then is. The mask covers all 64
bits of the CMD value: "In every row, bits [63:32] of the CMD write must be zero". -/
structure OpRow where
  mask : Word
  pattern : Word
  command : Word → Instr

/-- Does a CMD value select this row? `(W & mask) == match` (R301). -/
def OpRow.selects (r : OpRow) (c : Word) : Bool := c &&& r.mask == r.pattern

/-- The opcode map (R301), in the table's order. -/
def opcodeMap : List OpRow :=
  [ ⟨0xFFFFFFFFFFFFFFFF, 0x00000000, fun _ => .nop⟩,
    ⟨0xFFFFFFFFFFFFFF0F, 0x00000001, fun c => .seed (varField c)⟩,
    ⟨0xFFFFFFFFFFFFFFFF, 0x00000002, fun _ => .next⟩,
    ⟨0xFFFFFFFFFFFFFFFF, 0x00000003, fun _ => .nexti63⟩,
    ⟨0xFFFFFFFFFFFFFFFF, 0x00000004, fun _ => .jump⟩,
    ⟨0xFFFFFFFFFFFFC0FF, 0x00000005, fun c => .rotl (idxField c)⟩,
    ⟨0xFFFFFFFFFFFFC0FF, 0x00000006, fun c => .rdstate (idxField c)⟩,
    ⟨0xFFFFFFFFFFFFC0FF, 0x00000007, fun c => .wrstate (idxField c)⟩,
    ⟨0xFFFFFFFFFFFFFFFF, 0x00000008, fun _ => .rdcur⟩,
    ⟨0xFFFFFFFFFFFFFFFF, 0x00000009, fun _ => .wrcur⟩,
    ⟨0xFFFFFFFFFFFFFFFF, 0x0000000A, fun _ => .clrstat⟩ ]

/-- The command a CMD value is, or `none`: then executing it raises ILLEGAL_CMD (R303, R305). -/
def decode (c : Word) : Option Instr :=
  match opcodeMap.find? (fun r => r.selects c) with
  | some r => some (r.command c)
  | none => none

/-- The five conditions of legality, as R303 numbers them. The decoder does not use them: that the two agree is R303's
"Equivalently", and a statement. -/
def legal (c : Word) : Bool :=
  (c.extractLsb' 32 32).toNat = 0
    && (c.extractLsb' 14 18).toNat = 0
    && opField c ≤ 0xA
    && (varField c = 0 || opField c = 0x1)
    && (idxField c = 0 || opField c = 0x5 || opField c = 0x6 || opField c = 0x7)

/-- The opcode of a command (R301). -/
def opcodeOf : Instr → Nat
  | .nop => 0x0
  | .seed _ => 0x1
  | .next => 0x2
  | .nexti63 => 0x3
  | .jump => 0x4
  | .rotl _ => 0x5
  | .rdstate _ => 0x6
  | .wrstate _ => 0x7
  | .rdcur => 0x8
  | .wrcur => 0x9
  | .clrstat => 0xA

/-- What a command puts in its VAR field: only SEED uses it (R301). -/
def varOperand : Instr → Nat
  | .seed v => v
  | .nop => 0
  | .next => 0
  | .nexti63 => 0
  | .jump => 0
  | .rotl _ => 0
  | .rdstate _ => 0
  | .wrstate _ => 0
  | .rdcur => 0
  | .wrcur => 0
  | .clrstat => 0

/-- What a command puts in its IDX field: only ROTL, RDSTATE and WRSTATE use it (R301). -/
def idxOperand : Instr → Nat
  | .rotl k => k
  | .rdstate i => i
  | .wrstate i => i
  | .nop => 0
  | .seed _ => 0
  | .next => 0
  | .nexti63 => 0
  | .jump => 0
  | .rdcur => 0
  | .wrcur => 0
  | .clrstat => 0

/-- The CMD value of a well-formed command: `zext_64(OP | VAR << 4 | IDX << 8)` (R306). -/
def encode (i : Instr) : Word :=
  BitVec.ofNat 64 (opcodeOf i) ||| BitVec.ofNat 64 (varOperand i) <<< 4 ||| BitVec.ofNat 64 (idxOperand i) <<< 8

/-- The CMD value whose low `nbits` bits are w, every bit above them zero. XSCORE has no byte lanes (20_memory.md
R203): bit i of the word is bit i of the value. -/
def cmdOfTableWord (nbits w : Nat) : Word := BitVec.ofNat 64 (w % 2 ^ nbits)

/-- The command the decoder reads from an opcode-table word. -/
def decodeTableWord (nbits w : Nat) : Option Instr := decode (cmdOfTableWord nbits w)

end Sys2Proof
end

