-- ==== Sys2Proof/Config.lean ====
section
/-! DEFINITION. What a platform fixes and the spec leaves open (00_scope.md R7; 93_implementation_defined.md X10, X11):
where each unit's register window stands, and how many units there are. Both are opaque: no proof can see a value.
CMD_LATENCY (X12) is no constant: it is the interleaving, and that is `State.sched` (log 6). -/

namespace Sys2Proof

/-- Which 8-byte slot of the platform's address space unit i's window starts at (log 4). -/
opaque Config.windowSlot : Nat → Nat

/-- `XS_BASE(i)`, the base address of unit i's 32-byte register window: 8-byte aligned (D6), otherwise free (R7, R620). -/
def Config.xsBase (i : Nat) : Nat := 8 * Config.windowSlot i

/-- How many units the platform holds beside unit 0 (log 5). -/
opaque Config.moreUnits : Nat

/-- `NUM_INSTANCES`: at least 1, otherwise free (R7, R620). -/
def Config.numInstances : Nat := Config.moreUnits + 1

end Sys2Proof
end

