-- ==== Sys2Proof/Machine/HostSyntax.lean ====
section
/-! DEFINITION. The outside of the block as data: a bus access (20_memory.md R202), a statement of a host program
(30_encoding.md R307), and a move, which says who acts next (20_memory.md R210, 70_reset_and_hazards.md R711). -/

namespace Sys2Proof.Machine

/-- A bus access to a platform address; `bits` is how many bits it moves. Only 64-bit accesses at the four register
offsets are admitted (R202). -/
inductive Access where
  | write (addr : Nat) (bits : Nat) (value : Word)
  | read (addr : Nat) (bits : Nat)
  deriving DecidableEq, Repr

/-- A host register h0 to h7 (R307). -/
abbrev HReg := Fin 8

/-- A host statement (R307). A label is resolved to the position it marks; a name is a number (log 15). -/
inductive Stmt where
  /-- `WARG imm64`. -/
  | warg (v : Word)
  /-- `WARGR hN`. -/
  | wargr (r : HReg)
  /-- `WCMD command`. -/
  | wcmd (i : Instr)
  /-- `WCMD #imm64`: a raw value. -/
  | wcmdRaw (v : Word)
  /-- `WCMDR hN`. -/
  | wcmdr (r : HReg)
  /-- `RRES hN`. -/
  | rres (r : HReg)
  /-- `RSTAT hN`. -/
  | rstat (r : HReg)
  /-- `MOVI hN, imm64`. -/
  | movi (r : HReg) (v : Word)
  /-- `ADDI hN, hM, imm`. -/
  | addi (d a : HReg) (v : Word)
  /-- `ANDI hN, hM, imm`. -/
  | andi (d a : HReg) (v : Word)
  /-- `SHLI hN, hM, imm`: a count of 0 to 63. -/
  | shli (d a : HReg) (k : Fin 64)
  /-- `OR hN, hM, hK`. -/
  | or (d a b : HReg)
  /-- `BNEZ hN, label`. -/
  | bnez (r : HReg) (target : Nat)
  /-- `BLTI hN, imm, label`, unsigned. -/
  | blti (r : HReg) (v : Word) (target : Nat)
  /-- `JMP label`. -/
  | jmp (target : Nat)
  /-- `STORE hN -> name`. -/
  | store (r : HReg) (name : Nat)
  /-- `HSTORE hN, name[hM]`. -/
  | hstore (r : HReg) (name : Nat) (index : HReg)
  /-- `HLOAD hN, name[hM]`. -/
  | hload (r : HReg) (name : Nat) (index : HReg)
  /-- `END`. -/
  | halt
  deriving DecidableEq, Repr

/-- Who acts next (00_scope.md R13). -/
inductive Move where
  /-- Host k executes its next statement. -/
  | host (k : Nat)
  /-- The engine of unit i takes its enabled step, if it has one (R711). -/
  | engine (i : Nat)
  /-- Some other agent on the bus makes this access (R202). -/
  | access (a : Access)
  /-- The platform drives the reset input of unit i (R700). -/
  | reset (i : Nat)
  deriving DecidableEq, Repr

end Sys2Proof.Machine
end

