-- ==== Sys2Proof/Machine/Variant.lean ====
section
/-! DEFINITION. The fourteen generator variants (00_scope.md R3): a closed set of names, each with its VAR code, its
state length N, whether it has a cursor, and its jump distance. Codes 14 and 15 name nothing. -/

namespace Sys2Proof.Machine

/-- A generator variant, in the order of the VAR codes 0 to 13 (R3). -/
inductive Variant where
  | splitMix64
  | xorShift64StarA
  | xorShift64StarB
  | xorShift128PlusA
  | xorShift128PlusB
  | xoroShiro128Plus
  | xoroShiro128StarStar
  | xoroShiro256Plus
  | xoroShiro256PlusPlus
  | xoroShiro256StarStar
  | xoroShiro512StarStar
  | xorShift1024Star
  | xorShift1024StarPhi
  | xorShift4096Star
  deriving DecidableEq, Repr

/-- The 4-bit variant identifier (R3). -/
def Variant.code : Variant → BitVec 4
  | .splitMix64 => 0
  | .xorShift64StarA => 1
  | .xorShift64StarB => 2
  | .xorShift128PlusA => 3
  | .xorShift128PlusB => 4
  | .xoroShiro128Plus => 5
  | .xoroShiro128StarStar => 6
  | .xoroShiro256Plus => 7
  | .xoroShiro256PlusPlus => 8
  | .xoroShiro256StarStar => 9
  | .xoroShiro512StarStar => 10
  | .xorShift1024Star => 11
  | .xorShift1024StarPhi => 12
  | .xorShift4096Star => 13

/-- The variant a number names; 14 and above name none (R3, 60_exceptions.md R600). -/
def Variant.ofNumber : Nat → Option Variant
  | 0 => some .splitMix64
  | 1 => some .xorShift64StarA
  | 2 => some .xorShift64StarB
  | 3 => some .xorShift128PlusA
  | 4 => some .xorShift128PlusB
  | 5 => some .xoroShiro128Plus
  | 6 => some .xoroShiro128StarStar
  | 7 => some .xoroShiro256Plus
  | 8 => some .xoroShiro256PlusPlus
  | 9 => some .xoroShiro256StarStar
  | 10 => some .xoroShiro512StarStar
  | 11 => some .xorShift1024Star
  | 12 => some .xorShift1024StarPhi
  | 13 => some .xorShift4096Star
  | _ => none

/-- The state length N(VAR) in words (R3). -/
def Variant.len : Variant → Nat
  | .splitMix64 => 1
  | .xorShift64StarA => 1
  | .xorShift64StarB => 1
  | .xorShift128PlusA => 2
  | .xorShift128PlusB => 2
  | .xoroShiro128Plus => 2
  | .xoroShiro128StarStar => 2
  | .xoroShiro256Plus => 4
  | .xoroShiro256PlusPlus => 4
  | .xoroShiro256StarStar => 4
  | .xoroShiro512StarStar => 8
  | .xorShift1024Star => 16
  | .xorShift1024StarPhi => 16
  | .xorShift4096Star => 64

/-- The rotating-buffer variants, VAR 11, 12 and 13, have a cursor (R3, 10_state.md R105). -/
def Variant.hasCursor : Variant → Bool
  | .xorShift1024Star => true
  | .xorShift1024StarPhi => true
  | .xorShift4096Star => true
  | .splitMix64 => false
  | .xorShift64StarA => false
  | .xorShift64StarB => false
  | .xorShift128PlusA => false
  | .xorShift128PlusB => false
  | .xoroShiro128Plus => false
  | .xoroShiro128StarStar => false
  | .xoroShiro256Plus => false
  | .xoroShiro256PlusPlus => false
  | .xoroShiro256StarStar => false
  | .xoroShiro512StarStar => false

/-- The k of the jump distance 2^k, or `none` for VAR 0, 1, 2 and 13, which have no jump polynomial (46_jump.md R460). -/
def Variant.jumpExponent : Variant → Option Nat
  | .splitMix64 => none
  | .xorShift64StarA => none
  | .xorShift64StarB => none
  | .xorShift128PlusA => some 64
  | .xorShift128PlusB => some 64
  | .xoroShiro128Plus => some 64
  | .xoroShiro128StarStar => some 64
  | .xoroShiro256Plus => some 128
  | .xoroShiro256PlusPlus => some 128
  | .xoroShiro256StarStar => some 128
  | .xoroShiro512StarStar => some 256
  | .xorShift1024Star => some 512
  | .xorShift1024StarPhi => some 512
  | .xorShift4096Star => none

/-- Does the variant have a jump polynomial (R460)? -/
def Variant.hasJump (v : Variant) : Bool := v.jumpExponent.isSome

end Sys2Proof.Machine
end

