-- ==== Sys2Proof/Machine/Unit.lean ====
section
/-! DEFINITION. The parts of the state: one XSCORE with every register the spec gives it (10_state.md §1), a host
(30_encoding.md R307), and one XSCORE right after reset (10_state.md R113). State.lean puts them together. -/

namespace Sys2Proof.Machine

/-- One XSCORE. STATUS is no field of its own: BUSY, SEEDED and VAR are copies, so `statusWord` (Flags.lean) computes
it; CMD holds nothing (R108, R109). -/
structure Xscore where
  /-- XS_BASE(i): where the platform placed the register window; nothing writes it (R7, R620). -/
  base : Nat
  /-- S[0..63]; S[0..N-1] are architectural (R102). -/
  words : StateArray
  /-- P (R105). -/
  cursor : Cursor
  /-- VAR (R103): it only ever holds a code in 0..13, so it is a closed set (log 7). -/
  var : Variant
  /-- SEEDED (R104). -/
  seeded : Bool
  /-- ARG (R106). -/
  arg : Word
  /-- RES (R107). -/
  res : Word
  /-- STATUS.ERR, sticky (R108). -/
  err : Bool
  /-- STATUS.OVR, sticky (R108). -/
  ovr : Bool
  /-- STATUS.ECODE, sticky: the first error since the last CLRSTAT or reset (R108). -/
  ecode : BitVec 4
  /-- PEND: a command has been accepted and has not completed; STATUS.BUSY reads it (R110). -/
  pend : Bool
  /-- CMDL: the CMD value accepted (R110). -/
  cmdl : Word
  /-- ARGL: ARG at acceptance (R110). -/
  argl : Word
  /-- The model's own: a CMD write was dropped since the pending command was accepted. A CLRSTAT keeps the OVR of such a
  write (47_commands.md R509, corner case; log 9). -/
  overrun : Bool
  deriving DecidableEq, Repr

/-- One entry of a host's private data: a name, an index (0 in the result list), the value. -/
structure HostCell where
  name : Nat
  index : Nat
  value : Word
  deriving DecidableEq, Repr

/-- A host (R307): its program and position, h0 to h7, its result list and its arrays, and the window it drives. -/
structure HostAgent where
  /-- The base of the one window all of its program's accesses reach. DESIGN CHOICE (log 23): R202 and R307 name an offset
  and no unit. -/
  base : Nat
  prog : List Stmt
  pc : Nat
  regs : Vector Word 8
  results : List HostCell
  arrays : List HostCell
  deriving DecidableEq, Repr

/-- A unit right after reset, its window at `base` (R113). S, CMDL and ARGL are unspecified there: the zeros are this
model's (DESIGN CHOICE, logs 1 and 2); so is `overrun` (log 9). -/
def Xscore.reset (base : Nat) : Xscore :=
  { base := base
    words := Vector.replicate 64 0
    cursor := 0
    var := .splitMix64
    seeded := false
    arg := 0
    res := 0
    err := false
    ovr := false
    ecode := 0
    pend := false
    cmdl := 0
    argl := 0
    overrun := false }

end Sys2Proof.Machine
end

