-- ==== Sys2Proof/Machine/State.lean ====
section
/-! DEFINITION. The state: the units of a platform (60_exceptions.md R620), each with all that the spec gives one XSCORE
(`Xscore`, Unit.lean), the hosts (30_encoding.md R307), and the moves to come; why a step can stop; and the state right
after reset (10_state.md R113, 70_reset_and_hazards.md R700). Plain data throughout. -/

namespace Sys2Proof.Machine

/-- The whole machine. -/
structure State where
  /-- The units before the selected one, in order. -/
  left : List Xscore
  /-- The selected unit: the one a command executes on (log 5). -/
  xs : Xscore
  /-- The units after the selected one, in order. -/
  right : List Xscore
  /-- The hosts with a program (R307). -/
  hosts : List HostAgent
  /-- The moves to come, the next one first (log 6). -/
  sched : List Move
  /-- What the last raw bus read returned (R202, log 12). -/
  rdata : Word
  deriving DecidableEq, Repr

/-- Why the machine stops with a fault. -/
inductive Fault where
  /-- A host's HLOAD of an index never written: "Reading an index never written is a host fault" (R307). Raised by
  `hostLoad`. Safe: the run stops. -/
  | hostArrayUnwritten
  deriving DecidableEq, Repr

/-- Why a step has no meaning. -/
inductive Refusal where
  /-- No meaning yet: raised by a refused arm of `exec` only. Safe. -/
  | notModelled (mnemonic : String)
  /-- A narrow, wide, misaligned or out-of-window access: "A model refuses them: the host has no step and the run is
  stuck" (R202, X1). Raised by `busMove`, `hostWrite` and `hostRead`. Safe: a platform that does something with it is not modelled. -/
  | accessNotAdmitted
  deriving DecidableEq, Repr

/-- What a step of this machine answers. -/
abbrev Result := Host.Outcome State Fault Refusal

/-- Right after reset: every unit in its reset state (R113, R700), no host program loaded and no move placed (log 11). -/
def State.reset : State :=
  { left := []
    xs := Xscore.reset (Config.xsBase 0)
    right := (List.range Config.moreUnits).map (fun i => Xscore.reset (Config.xsBase (i + 1)))
    hosts := []
    sched := []
    rdata := 0 }

end Sys2Proof.Machine
end

