-- ==== Sys2Proof/Machine/Flags.lean ====
section
/-! DEFINITION. The flags: the STATUS view (10_state.md R108), the six error codes (60_exceptions.md R600), and the three
ways the sticky flags change: an error (R603), an overrun (70_reset_and_hazards.md R712), CLRSTAT (47_commands.md R509).
No command sets a flag as a side effect of its computation (R112). -/

namespace Sys2Proof.Machine

/-- The command errors (R600). -/
inductive CmdError where
  | illegalCmd
  | badVariant
  | notSeeded
  | noJump
  | badIndex
  | noCursor
  deriving DecidableEq, Repr

/-- The ECODE of an error (R600). -/
def CmdError.code : CmdError → BitVec 4
  | .illegalCmd => 1
  | .badVariant => 2
  | .notSeeded => 3
  | .noJump => 4
  | .badIndex => 5
  | .noCursor => 6

/-- A one-bit flag as a number. -/
def bitOf (b : Bool) : Nat := if b then 1 else 0

/-- What a read of STATUS returns (R108): BUSY [0], SEEDED [1], ERR [2], OVR [3], ECODE [7:4], VAR [11:8], the rest 0. -/
def statusWord (x : Xscore) : Word :=
  BitVec.ofNat 64 (bitOf x.pend)
    ||| BitVec.ofNat 64 (bitOf x.seeded) <<< 1
    ||| BitVec.ofNat 64 (bitOf x.err) <<< 2
    ||| BitVec.ofNat 64 (bitOf x.ovr) <<< 3
    ||| x.ecode.setWidth 64 <<< 4
    ||| x.var.code.setWidth 64 <<< 8

/-- The error procedure's effect on the flags (R603): ECODE takes the code only if ERR was 0, then ERR is set. -/
def recordError (x : Xscore) (e : CmdError) : Xscore :=
  { x with ecode := if x.err then x.ecode else e.code, err := true }

/-- A dropped CMD write sets OVR and changes nothing else that software can see (R712). -/
def recordOverrun (x : Xscore) : Xscore := { x with ovr := true, overrun := true }

/-- CLRSTAT's effect (R509): ERR, ECODE and OVR become 0. The OVR of a CMD write that was dropped while this CLRSTAT was
pending "is set after CLRSTAT's effect" (R509, corner case; log 9). -/
def clearSticky (x : Xscore) : Xscore := { x with err := false, ecode := 0, ovr := x.overrun }

end Sys2Proof.Machine
end

