-- ==== Sys2Proof/Machine/Rotate.lean ====
section
/-! DEFINITION. The bit-rotate primitive (40_bitrotate.md R400). ROTL, the command over it, is in Rotation.lean. -/

namespace Sys2Proof.Machine

/-- `rotl(x, k)` for k in 0..63; k = 0 is the identity (R400, decision D18). -/
def rotl (x : Word) (k : Nat) : Word :=
  if k = 0 then x else (x <<< k) ||| (x >>> (64 - k))

end Sys2Proof.Machine
end

