-- ==== Sys2Proof/Machine/Rom.lean ====
section
/-! DEFINITION. The ROM (10_state.md R111): the constants of the variants' formulas, and the jump polynomials. Nothing
writes it. The tables `xoshiro256`, `xoshiro512` and `Rotating` are the replaceable configuration table that
93_implementation_defined.md asks for (items G1 and G2, from general knowledge, log 16); the polynomials are the derived
words of 46_jump.md R461 (log 17). -/

namespace Sys2Proof.Machine

/-- GAMMA, the SplitMix64 increment (41_splitmix64.md R410). -/
def Rom.gamma : Word := 0x9E3779B97F4A7C15

/-- M1, the first SplitMix64 multiplier (R410). -/
def Rom.m1 : Word := 0xBF58476D1CE4E5B9

/-- M2, the second SplitMix64 multiplier (R410). -/
def Rom.m2 : Word := 0x94D049BB133111EB

/-- C64, the XorShift64* multiplier (42_xorshift64star.md R420). -/
def Rom.c64 : Word := 0x2545F4914F6CDD1D

/-- The shift and rotation count of a 256-bit or 512-bit recurrence (44_four_eight_word.md R440, R444; item G1). -/
structure RecurrenceCounts where
  shift : Nat
  rotate : Nat

/-- upd256: `t <- s[1] << 17` and `rotl(s[3], 45)` (R440). -/
def Rom.xoshiro256 : RecurrenceCounts := ⟨17, 45⟩

/-- The 512-bit update: `t <- s[1] << 11` and `rotl(s[7], 21)` (R444). -/
def Rom.xoshiro512 : RecurrenceCounts := ⟨11, 21⟩

/-- The rotation count of the 256++ scrambler (R442). -/
def Rom.plusPlusRotate : Nat := 23

/-- The shift triple and multiplier of a rotating-buffer variant (45_rotating_buffer.md R450; item G2). -/
structure RotatingConstants where
  a : Nat
  b : Nat
  c : Nat
  mult : Word

/-- XORSHIFT1024STAR (R451). -/
def Rom.xorShift1024Star : RotatingConstants := ⟨31, 11, 30, 0x106689D45497FDB5⟩

/-- XORSHIFT1024STARPHI: the same triple, another multiplier (R452). -/
def Rom.xorShift1024StarPhi : RotatingConstants := ⟨31, 11, 30, 0x9E3779B97F4A7C13⟩

/-- XORSHIFT4096STAR (R453). -/
def Rom.xorShift4096Star : RotatingConstants := ⟨25, 3, 49, 0x74321163EEC4A005⟩

/-- `ROM_JUMP(var, ·)`: the words of each variant's jump polynomial, word 0 first; an entry of its own for each variant
(46_jump.md R461). The variants without a jump have none (R460). -/
def Rom.jump : Variant → List Word
  | .splitMix64 => []
  | .xorShift64StarA => []
  | .xorShift64StarB => []
  | .xorShift128PlusA => [0x8A5CD789635D2DFF, 0x121FD2155C472F96]
  | .xorShift128PlusB => [0x8C405782BCA686AD, 0xC44F35946FEF49C6]
  | .xoroShiro128Plus => [0xBEAC0467EBA5FACB, 0xD86B048B86AA9922]
  | .xoroShiro128StarStar => [0xDF900294D8F554A5, 0x170865DF4B3201FC]
  | .xoroShiro256Plus => [0x180EC6D33CFD0ABA, 0xD5A61266F0C9392C, 0xA9582618E03FC9AA, 0x39ABDC4529B1661C]
  | .xoroShiro256PlusPlus => [0x180EC6D33CFD0ABA, 0xD5A61266F0C9392C, 0xA9582618E03FC9AA, 0x39ABDC4529B1661C]
  | .xoroShiro256StarStar => [0x180EC6D33CFD0ABA, 0xD5A61266F0C9392C, 0xA9582618E03FC9AA, 0x39ABDC4529B1661C]
  | .xoroShiro512StarStar =>
    [0x33ED89B6E7A353F9, 0x760083D7955323BE, 0x2837F2FBB5F22FAE, 0x4B8C5674D309511C,
     0xB11AC47A7BA28C25, 0xF1BE7667092BCC1C, 0x53851EFDB6DF0AAF, 0x1EBBC8B23EAF25DB]
  | .xorShift1024Star =>
    [0x84242F96ECA9C41D, 0xA3C65B8776F96855, 0x5B34A39F070B5837, 0x4489AFFCE4F31A1E,
     0x2FFEEB0A48316F40, 0xDC2D9891FE68C022, 0x3659132BB12FEA70, 0xAAC17D8EFA43CAB8,
     0xC4CB815590989B13, 0x5EE975283D71C93B, 0x691548C86C1BD540, 0x7910C41D10A1E6A5,
     0x0B5FC64563B3E2A8, 0x047F7684E9FC949D, 0xB99181F2D8F685CA, 0x284600E3F30E38C3]
  | .xorShift1024StarPhi =>
    [0x84242F96ECA9C41D, 0xA3C65B8776F96855, 0x5B34A39F070B5837, 0x4489AFFCE4F31A1E,
     0x2FFEEB0A48316F40, 0xDC2D9891FE68C022, 0x3659132BB12FEA70, 0xAAC17D8EFA43CAB8,
     0xC4CB815590989B13, 0x5EE975283D71C93B, 0x691548C86C1BD540, 0x7910C41D10A1E6A5,
     0x0B5FC64563B3E2A8, 0x047F7684E9FC949D, 0xB99181F2D8F685CA, 0x284600E3F30E38C3]
  | .xorShift4096Star => []

end Sys2Proof.Machine
end

