-- ==== Sys2Proof/Machine/StateArray.lean ====
section
/-! DEFINITION. Access to the state array S by word index (20_memory.md R205; 00_scope.md R11): `S[i]` and `S[i] <- v`.
The engine only uses indices below 64. -/

namespace Sys2Proof.Machine

/-- `S[i]` (R11). -/
def StateArray.word (S : StateArray) (i : Nat) : Word := S.getD i 0

/-- `S[i] <- v` (R11). -/
def StateArray.setWord (S : StateArray) (i : Nat) (v : Word) : StateArray := S.setIfInBounds i v

/-- `S[k], S[k+1], ... <- ws`, in order. -/
def StateArray.setWords (S : StateArray) (k : Nat) : List Word → StateArray
  | [] => S
  | w :: ws => StateArray.setWords (StateArray.setWord S k w) (k + 1) ws

/-- `S[0 .. n-1]` as a list (20_memory.md R207). -/
def StateArray.firstWords (S : StateArray) (n : Nat) : List Word := (List.range n).map (StateArray.word S)

/-- All 64 words zero. -/
def StateArray.zero : StateArray := Vector.replicate 64 0

end Sys2Proof.Machine
end

