-- ==== Sys2Proof/Machine/SplitMix.lean ====
section
/-! DEFINITION. SplitMix64 (41_splitmix64.md): the output function, the step of variant 0, and the seed expander. Also
`Stepped`, what every variant's step function answers: `step_VAR(S, P) -> (S', P', out)` (00_scope.md R11). -/

namespace Sys2Proof.Machine

/-- The result of one generator step: the new state array, the new cursor, the output (R11). -/
structure Stepped where
  words : StateArray
  cursor : Cursor
  out : Word
  deriving DecidableEq, Repr

/-- `mix(z)` (R410). -/
def mix (z : Word) : Word :=
  let z₁ := (z ^^^ (z >>> 30)) * Rom.m1
  let z₂ := (z₁ ^^^ (z₁ >>> 27)) * Rom.m2
  z₂ ^^^ (z₂ >>> 31)

/-- The step of variant 0 (R411). -/
def stepSplitMix64 (S : StateArray) (P : Cursor) : Stepped :=
  let s := StateArray.word S 0 + Rom.gamma
  { words := StateArray.setWord S 0 s, cursor := P, out := mix s }

/-- `expand(seed, n)`: n SplitMix64 outputs from t = seed, in order; the last t is discarded (R412). -/
def expand (t : Word) : Nat → List Word
  | 0 => []
  | n + 1 => mix (t + Rom.gamma) :: expand (t + Rom.gamma) n

/-- The words a SEED of a variant with N = n writes: the seed itself for variant 0 (R413), the expansion for the
others (R412). -/
def seedWords (v : Variant) (seed : Word) : List Word :=
  match v with
  | .splitMix64 => [seed]
  | v => expand seed v.len

end Sys2Proof.Machine
end

