-- ==== Sys2Proof/Machine/TwoWord.lean ====
section
/-! DEFINITION. The 2-word variants 3 to 6 (43_two_word.md). In XorShift128+ the formula's s1 is read from S[0] and its s0
from S[1] (R430, 90_conflicts.md C4); in XoroShiro128 s0 is S[0] and s1 is S[1]. -/

namespace Sys2Proof.Machine

/-- XorShift128+ with a shift pair (shiftA, shiftB) (R431, R432). -/
def xorShift128Plus (shiftA shiftB : Nat) (S : StateArray) (P : Cursor) : Stepped :=
  let s1 := StateArray.word S 0
  let s0 := StateArray.word S 1
  let s1 := s1 ^^^ (s1 <<< 23)
  let n1 := s1 ^^^ s0 ^^^ (s1 >>> shiftA) ^^^ (s0 >>> shiftB)
  { words := StateArray.setWord (StateArray.setWord S 0 s0) 1 n1, cursor := P, out := n1 + s0 }

/-- Variant 3, shift pair (18, 5) (R431). -/
def stepXorShift128PlusA (S : StateArray) (P : Cursor) : Stepped := xorShift128Plus 18 5 S P

/-- Variant 4, shift pair (17, 26) (R432). -/
def stepXorShift128PlusB (S : StateArray) (P : Cursor) : Stepped := xorShift128Plus 17 26 S P

/-- The ** scrambler, `rotl(x * 5, 7) * 9` (R434; 44_four_eight_word.md R443, R444; 90_conflicts.md C5). -/
def starStar (x : Word) : Word := rotl (x * 5) 7 * 9

/-- The XoroShiro128 update with counts (a, b, c): `S'[0] = rotl(s0, a) ^ s1 ^ (s1 << b)` and `S'[1] = rotl(s1, c)`,
where s1 is S[1] after `s1 ^= s0` (R433, R434). -/
def xoroShiro128Update (a b c : Nat) (S : StateArray) : StateArray :=
  let s0 := StateArray.word S 0
  let s1 := StateArray.word S 1 ^^^ s0
  StateArray.setWord (StateArray.setWord S 0 (rotl s0 a ^^^ s1 ^^^ (s1 <<< b))) 1 (rotl s1 c)

/-- Variant 5 (R433): the output is computed before the mutation. -/
def stepXoroShiro128Plus (S : StateArray) (P : Cursor) : Stepped :=
  { words := xoroShiro128Update 55 14 36 S, cursor := P, out := StateArray.word S 0 + StateArray.word S 1 }

/-- Variant 6 (R434): the output is computed before the mutation. -/
def stepXoroShiro128StarStar (S : StateArray) (P : Cursor) : Stepped :=
  { words := xoroShiro128Update 24 16 37 S, cursor := P, out := starStar (StateArray.word S 0) }

end Sys2Proof.Machine
end

