-- ==== Sys2Proof/Machine/FourEightWord.lean ====
section
/-! DEFINITION. The 4-word variants 7 to 9 and the 8-word variant 10 (44_four_eight_word.md). The recurrences are the
spec's, which marks them as general knowledge (item G1, log 16). Each output is computed from the old S. -/

namespace Sys2Proof.Machine

/-- `upd256(S)` (R440), its statements in order: a primed name is the value a statement leaves. -/
def upd256 (S : StateArray) : StateArray :=
  let s0 := StateArray.word S 0
  let s1 := StateArray.word S 1
  let s2 := StateArray.word S 2
  let s3 := StateArray.word S 3
  let t := s1 <<< Rom.xoshiro256.shift
  let s2' := s2 ^^^ s0
  let s3' := s3 ^^^ s1
  let s1' := s1 ^^^ s2'
  let s0' := s0 ^^^ s3'
  let s2'' := s2' ^^^ t
  let s3'' := rotl s3' Rom.xoshiro256.rotate
  StateArray.setWords S 0 [s0', s1', s2'', s3'']

/-- Variant 7 (R441). -/
def stepXoroShiro256Plus (S : StateArray) (P : Cursor) : Stepped :=
  { words := upd256 S, cursor := P, out := StateArray.word S 0 + StateArray.word S 3 }

/-- Variant 8 (R442). -/
def stepXoroShiro256PlusPlus (S : StateArray) (P : Cursor) : Stepped :=
  { words := upd256 S, cursor := P,
    out := rotl (StateArray.word S 0 + StateArray.word S 3) Rom.plusPlusRotate + StateArray.word S 0 }

/-- Variant 9 (R443). -/
def stepXoroShiro256StarStar (S : StateArray) (P : Cursor) : Stepped :=
  { words := upd256 S, cursor := P, out := starStar (StateArray.word S 1) }

/-- The 512-bit update of R444, its statements in order. -/
def upd512 (S : StateArray) : StateArray :=
  let s0 := StateArray.word S 0
  let s1 := StateArray.word S 1
  let s2 := StateArray.word S 2
  let s3 := StateArray.word S 3
  let s4 := StateArray.word S 4
  let s5 := StateArray.word S 5
  let s6 := StateArray.word S 6
  let s7 := StateArray.word S 7
  let t := s1 <<< Rom.xoshiro512.shift
  let s2' := s2 ^^^ s0
  let s5' := s5 ^^^ s1
  let s1' := s1 ^^^ s2'
  let s7' := s7 ^^^ s3
  let s3' := s3 ^^^ s4
  let s4' := s4 ^^^ s5'
  let s0' := s0 ^^^ s6
  let s6' := s6 ^^^ s7'
  let s6'' := s6' ^^^ t
  let s7'' := rotl s7' Rom.xoshiro512.rotate
  StateArray.setWords S 0 [s0', s1', s2', s3', s4', s5', s6'', s7'']

/-- Variant 10 (R444). -/
def stepXoroShiro512StarStar (S : StateArray) (P : Cursor) : Stepped :=
  { words := upd512 S, cursor := P, out := starStar (StateArray.word S 1) }

end Sys2Proof.Machine
end

