-- ==== Sys2Proof/Machine/RotatingBuffer.lean ====
section
/-! DEFINITION. The rotating-buffer variants 11, 12 and 13 (45_rotating_buffer.md). The shift triples are the spec's, which
marks them as general knowledge (item G2, log 16). -/

namespace Sys2Proof.Machine

/-- `(P + 1) mod N` as a cursor (R450). -/
def nextCursor (n : Nat) (P : Cursor) : Cursor := BitVec.ofNat 6 ((P.toNat + 1) % n)

/-- The common step with N = n and constants k (R450): exactly one word changes, and P moves on. -/
def stepRotating (n : Nat) (k : RotatingConstants) (S : StateArray) (P : Cursor) : Stepped :=
  let pn := nextCursor n P
  let s0 := StateArray.word S P.toNat
  let s1 := StateArray.word S pn.toNat
  let s1 := s1 ^^^ (s1 <<< k.a)
  let s1 := s1 ^^^ (s1 >>> k.b)
  let s0 := s0 ^^^ (s0 >>> k.c)
  let w := s0 ^^^ s1
  { words := StateArray.setWord S pn.toNat w, cursor := pn, out := w * k.mult }

/-- Variant 11 (R451). -/
def stepXorShift1024Star (S : StateArray) (P : Cursor) : Stepped := stepRotating 16 Rom.xorShift1024Star S P

/-- Variant 12 (R452). -/
def stepXorShift1024StarPhi (S : StateArray) (P : Cursor) : Stepped := stepRotating 16 Rom.xorShift1024StarPhi S P

/-- Variant 13 (R453). -/
def stepXorShift4096Star (S : StateArray) (P : Cursor) : Stepped := stepRotating 64 Rom.xorShift4096Star S P

end Sys2Proof.Machine
end

