-- ==== Sys2Proof/Machine/XorShift64.lean ====
section
/-! DEFINITION. XorShift64*, variants 1 and 2 (42_xorshift64star.md). -/

namespace Sys2Proof.Machine

/-- `perm64(x)` (R420): each shift reads the value the line before left. -/
def perm64 (x : Word) : Word :=
  let x₁ := x ^^^ (x >>> 12)
  let x₂ := x₁ ^^^ (x₁ <<< 25)
  x₂ ^^^ (x₂ >>> 27)

/-- Variant 1, multiply-then-update (R420). -/
def stepXorShift64StarA (S : StateArray) (P : Cursor) : Stepped :=
  let x := StateArray.word S 0
  { words := StateArray.setWord S 0 (perm64 x), cursor := P, out := x * Rom.c64 }

/-- Variant 2, update-then-multiply (R421). -/
def stepXorShift64StarB (S : StateArray) (P : Cursor) : Stepped :=
  let x := perm64 (StateArray.word S 0)
  { words := StateArray.setWord S 0 x, cursor := P, out := x * Rom.c64 }

end Sys2Proof.Machine
end

