-- ==== Sys2Proof/Machine/Generator.lean ====
section
/-! DEFINITION. The `step_VAR` dispatch (47_commands.md R500) and the jump engine over it (46_jump.md R463). -/

namespace Sys2Proof.Machine

/-- `step_VAR(S, P) -> (S', P', out)`, by the dispatch table of R500. -/
def stepVar : Variant → StateArray → Cursor → Stepped
  | .splitMix64 => stepSplitMix64
  | .xorShift64StarA => stepXorShift64StarA
  | .xorShift64StarB => stepXorShift64StarB
  | .xorShift128PlusA => stepXorShift128PlusA
  | .xorShift128PlusB => stepXorShift128PlusB
  | .xoroShiro128Plus => stepXoroShiro128Plus
  | .xoroShiro128StarStar => stepXoroShiro128StarStar
  | .xoroShiro256Plus => stepXoroShiro256Plus
  | .xoroShiro256PlusPlus => stepXoroShiro256PlusPlus
  | .xoroShiro256StarStar => stepXoroShiro256StarStar
  | .xoroShiro512StarStar => stepXoroShiro512StarStar
  | .xorShift1024Star => stepXorShift1024Star
  | .xorShift1024StarPhi => stepXorShift1024StarPhi
  | .xorShift4096Star => stepXorShift4096Star

/-- What the jump sequencer holds during a scan: the accumulator of N words, and the state it steps (10_state.md R110).
It lives inside JUMP's one atomic step and is in no field of State. -/
structure JumpScan where
  acc : List Word
  words : StateArray
  cursor : Cursor
  deriving DecidableEq, Repr

/-- `acc[j] <- acc[j] ^ S[(j + P) mod N]` for every j (R463). -/
def jumpAccumulate (n : Nat) (J : JumpScan) : List Word :=
  J.acc.mapIdx (fun j a => a ^^^ StateArray.word J.words ((j + J.cursor.toNat) % n))

/-- One bit of the scan: accumulate if it is 1, then take one step, its output discarded (R463). -/
def jumpBit (v : Variant) (bit : Bool) (J : JumpScan) : JumpScan :=
  let r := stepVar v J.words J.cursor
  { acc := if bit then jumpAccumulate v.len J else J.acc, words := r.words, cursor := r.cursor }

/-- The bits of a polynomial in the order they are scanned: word 0 first, bit 0 of each word first (R463, D26). -/
def polynomialBits (q : List Word) : List Bool := q.flatMap (fun w => (List.range 64).map (fun b => w.getLsbD b))

/-- The scan of R463 from a zero accumulator. -/
def jumpScan (v : Variant) (q : List Word) (S : StateArray) (P : Cursor) : JumpScan :=
  (polynomialBits q).foldl (fun J b => jumpBit v b J) { acc := List.replicate v.len 0, words := S, cursor := P }

/-- `S[(j + P) mod N] <- acc[j]` for j = k, k+1, ... (R463). -/
def jumpWriteBack (n : Nat) (P : Cursor) (S : StateArray) (k : Nat) : List Word → StateArray
  | [] => S
  | a :: acc => jumpWriteBack n P (StateArray.setWord S ((k + P.toNat) % n) a) (k + 1) acc

/-- `JumpAlg(VAR, q)` on (S, P) (R463): the new (S, P). -/
def jumpAlg (v : Variant) (q : List Word) (S : StateArray) (P : Cursor) : StateArray × Cursor :=
  let J := jumpScan v q S P
  (jumpWriteBack v.len J.cursor J.words 0 J.acc, J.cursor)

end Sys2Proof.Machine
end

