-- ==== Sys2Proof/Machine/Operands.lean ====
section
/-! DEFINITION. Every operand form of a command (30_encoding.md R302): the variant number of SEED, the word index of
RDSTATE and WRSTATE, and the 64-bit operand ARGL, taken whole or as a cursor. Each answers `none` exactly where the
command raises its range error (60_exceptions.md R600). -/

namespace Sys2Proof.Machine

/-- SEED's VAR field as a variant; 14 and 15 name none (47_commands.md R502). -/
def variantOperand (v : Nat) : Option Variant := Variant.ofNumber v

/-- A word index in [0, N(VAR)) (R505, R506; 20_memory.md R205). -/
def indexOperand (x : Xscore) (i : Nat) : Option Nat := if i < x.var.len then some i else none

/-- ARGL, the value ARG held when the command was accepted (R302). -/
def argOperand (x : Xscore) : Word := x.argl

/-- WRCUR's operand: ARGL compared with N(VAR) as a full 64-bit unsigned value, then its low 6 bits (R508). -/
def cursorOperand (x : Xscore) : Option Cursor :=
  if x.argl.toNat < x.var.len then some (x.argl.setWidth 6) else none

end Sys2Proof.Machine
end

