-- ==== Sys2Proof/Machine/Ops.lean ====
section
/-! DEFINITION. The shared operations. On units: their list, selecting one, finding the one an address is in. Of a command:
completing it (70_reset_and_hazards.md R711), the error procedure (60_exceptions.md R603), which stands where another
machine takes an exception (XSCORE has no traps, R611), the SEEDED guard (R601), one generator step. Of the register
window: the four registers, reading and writing them (20_memory.md R201 to R204), and the bus access over them. -/

namespace Sys2Proof.Machine

/-- All units of the platform, in order (60_exceptions.md R620). -/
def State.units (s : State) : List Xscore := s.left ++ s.xs :: s.right

/-- The same machine with unit i the selected one; `none` if there is no unit i. -/
def State.select (s : State) (i : Nat) : Option State :=
  match s.units[i]? with
  | some x => some { s with left := s.units.take i, xs := x, right := s.units.drop (i + 1) }
  | none => none

/-- The command of the selected unit completes, leaving the unit as x: PEND <- 0 (R711). -/
def State.finish (s : State) (x : Xscore) : State := { s with xs := { x with pend := false } }

/-- A command that succeeds, leaving the unit as x. -/
def complete (s : State) (x : Xscore) : Result := .next (s.finish x)

/-- `raise CmdError(e)`: the error procedure; the command then completes (R603). -/
def cmdError (s : State) (e : CmdError) : Result := .next (s.finish (recordError s.xs e))

/-- The SEEDED guard: NOT_SEEDED before anything else (R601). -/
def whenSeeded (s : State) (k : Result) : Result := if s.xs.seeded then k else cmdError s .notSeeded

/-- One step of the selected unit's variant (47_commands.md R500). -/
def generatorStep (x : Xscore) : Stepped := stepVar x.var x.words x.cursor

/-- The unit after a step that wrote `out` to RES (R503, R504). -/
def afterStep (x : Xscore) (r : Stepped) (out : Word) : Xscore :=
  { x with words := r.words, cursor := r.cursor, res := out }

/-- The unit after a SEED of variant v (R502). -/
def afterSeed (x : Xscore) (v : Variant) : Xscore :=
  { x with
    words := StateArray.setWords x.words 0 (seedWords v (argOperand x))
    var := v
    cursor := 0
    seeded := true }

/-- The four registers of the window (R201). -/
inductive Reg where
  | cmd
  | arg
  | res
  | status
  deriving DecidableEq, Repr

/-- The register at an offset; any other offset is not admitted (R201, R202). -/
def regAt : Nat → Option Reg
  | 0x00 => some .cmd
  | 0x08 => some .arg
  | 0x10 => some .res
  | 0x18 => some .status
  | _ => none

/-- `RegRead`: CMD reads 0; no read has a side effect (R201, R204). -/
def regRead (x : Xscore) : Reg → Word
  | .cmd => 0
  | .arg => x.arg
  | .res => x.res
  | .status => statusWord x

/-- A write of c to CMD: accepted while PEND = 0, else dropped with OVR (70_reset_and_hazards.md R710, R712). -/
def writeCmd (x : Xscore) (c : Word) : Xscore :=
  if x.pend then recordOverrun x else { x with cmdl := c, argl := x.arg, pend := true, overrun := false }

/-- `RegWrite`: RES and STATUS ignore writes (R204). -/
def regWrite (x : Xscore) (r : Reg) (v : Word) : Xscore :=
  match r with
  | .cmd => writeCmd x v
  | .arg => { x with arg := v }
  | .res => x
  | .status => x

/-- Is the address in the unit's 32-byte window (R200)? -/
def Xscore.holds (x : Xscore) (addr : Nat) : Bool := x.base ≤ addr && addr < x.base + 32

/-- The unit an address is in, and the register there: only for a 64-bit access at a register's offset (R202). Where
windows overlap, which a platform must not do, the first unit answers (log 20). -/
def State.target (s : State) (addr bits : Nat) : Option (Nat × Reg) :=
  match s.units.findIdx? (fun x => x.holds addr) with
  | some i =>
    match s.units[i]? with
    | some x => if bits = 64 then (regAt (addr - x.base)).map (fun r => (i, r)) else none
    | none => none
  | none => none

/-- A bus read: the value, or `none` where the access is not admitted (R202). It changes nothing. -/
def State.busRead (s : State) (addr bits : Nat) : Option Word :=
  match s.target addr bits with
  | some (i, r) => (s.units[i]?).map (fun x => regRead x r)
  | none => none

/-- A bus write: the new state, or `none` where the access is not admitted (R202). The unit written is selected. -/
def State.busWrite (s : State) (addr bits : Nat) (v : Word) : Option State :=
  match s.target addr bits with
  | some (i, r) => (s.select i).map (fun s' => { s' with xs := regWrite s'.xs r v })
  | none => none

end Sys2Proof.Machine
end

