-- ==== Sys2Proof/Machine/Control.lean ====
section
/-! DEFINITION. NOP and CLRSTAT (47_commands.md R501, R509). Neither needs a seed. -/

namespace Sys2Proof.Machine

/-- NOP (R501): only BUSY returns to 0. -/
def execNop (s : State) : Result := complete s s.xs

/-- CLRSTAT (R509). -/
def execClrstat (s : State) : Result := complete s (clearSticky s.xs)

end Sys2Proof.Machine
end

