-- ==== Sys2Proof/Machine/Facade.lean ====
section
/-! DEFINITION. SEED, NEXT and NEXTI63 (47_commands.md R502 to R504). -/

namespace Sys2Proof.Machine

/-- SEED v (R502): v = 14 or 15 raises BAD_VARIANT; SEED needs no earlier seed. -/
def execSeed (v : Nat) (s : State) : Result :=
  match variantOperand v with
  | some v => complete s (afterSeed s.xs v)
  | none => cmdError s .badVariant

/-- NEXT (R503). -/
def execNext (s : State) : Result :=
  whenSeeded s
    (let r := generatorStep s.xs
     complete s (afterStep s.xs r r.out))

/-- NEXTI63 (R504): as NEXT, with bit 63 of the output cleared. -/
def execNexti63 (s : State) : Result :=
  whenSeeded s
    (let r := generatorStep s.xs
     complete s (afterStep s.xs r (r.out &&& 0x7FFFFFFFFFFFFFFF)))

end Sys2Proof.Machine
end

