-- ==== Sys2Proof/Machine/Jump.lean ====
section
/-! DEFINITION. JUMP (46_jump.md R465). -/

namespace Sys2Proof.Machine

/-- JUMP (R465): NO_JUMP for the variants without a polynomial; else JumpAlg with the variant's ROM words. RES is
unchanged. -/
def execJump (s : State) : Result :=
  whenSeeded s
    (if s.xs.var.hasJump then
      let r := jumpAlg s.xs.var (Rom.jump s.xs.var) s.xs.words s.xs.cursor
      complete s { s.xs with words := r.1, cursor := r.2 }
    else cmdError s .noJump)

end Sys2Proof.Machine
end

