-- ==== Sys2Proof/Machine/Rotation.lean ====
section
/-! DEFINITION. ROTL (40_bitrotate.md R401). -/

namespace Sys2Proof.Machine

/-- ROTL k (R401): RES <- rotl(ARGL, k); needs no seed. -/
def execRotl (k : Nat) (s : State) : Result :=
  complete s { s.xs with res := rotl (argOperand s.xs) k }

end Sys2Proof.Machine
end

