-- ==== Sys2Proof/Machine/StateAccess.lean ====
section
/-! DEFINITION. RDSTATE, WRSTATE, RDCUR and WRCUR (47_commands.md R505 to R508). Their errors are tested in the order of
60_exceptions.md R602. -/

namespace Sys2Proof.Machine

/-- RDSTATE i (R505). -/
def execRdstate (i : Nat) (s : State) : Result :=
  whenSeeded s
    (match indexOperand s.xs i with
     | some i => complete s { s.xs with res := StateArray.word s.xs.words i }
     | none => cmdError s .badIndex)

/-- WRSTATE i (R506). -/
def execWrstate (i : Nat) (s : State) : Result :=
  whenSeeded s
    (match indexOperand s.xs i with
     | some i => complete s { s.xs with words := StateArray.setWord s.xs.words i (argOperand s.xs) }
     | none => cmdError s .badIndex)

/-- RDCUR (R507): RES <- zext_64(P). -/
def execRdcur (s : State) : Result :=
  whenSeeded s
    (if s.xs.var.hasCursor then complete s { s.xs with res := s.xs.cursor.setWidth 64 }
     else cmdError s .noCursor)

/-- WRCUR (R508). -/
def execWrcur (s : State) : Result :=
  whenSeeded s
    (if s.xs.var.hasCursor then
      match cursorOperand s.xs with
      | some P => complete s { s.xs with cursor := P }
      | none => cmdError s .badIndex
     else cmdError s .noCursor)

end Sys2Proof.Machine
end

