-- ==== Sys2Proof/Machine/Dispatch.lean ====
section
/-! DEFINITION. `Execute` for a legal command (47_commands.md R500), with its completion (70_reset_and_hazards.md R711). -/

namespace Sys2Proof.Machine

def exec (i : Instr) (s : State) : Host.Outcome State Fault Refusal :=
  match i with
  | .nop => Sys2Proof.Machine.execNop s
  | .seed v => Sys2Proof.Machine.execSeed v s
  | .next => Sys2Proof.Machine.execNext s
  | .nexti63 => Sys2Proof.Machine.execNexti63 s
  | .jump => Sys2Proof.Machine.execJump s
  | .rotl k => Sys2Proof.Machine.execRotl k s
  | .rdstate k => Sys2Proof.Machine.execRdstate k s
  | .wrstate k => Sys2Proof.Machine.execWrstate k s
  | .rdcur => Sys2Proof.Machine.execRdcur s
  | .wrcur => Sys2Proof.Machine.execWrcur s
  | .clrstat => Sys2Proof.Machine.execClrstat s

end Sys2Proof.Machine
end

