-- ==== Sys2Proof/Machine/Engine.lean ====
section
/-! DEFINITION. The engine's step on the selected unit (70_reset_and_hazards.md R711). -/

namespace Sys2Proof.Machine

/-- While PEND = 1 the engine has one enabled step: `Execute(CMDL, ARGL)`, then PEND <- 0; a CMDL that is no legal
command raises ILLEGAL_CMD (R711; 47_commands.md R500). While PEND = 0 it has none, and the unit holds its state
(60_exceptions.md R624). -/
def engineStep (s : State) : Result :=
  if s.xs.pend then
    match decode s.xs.cmdl with
    | some i => exec i s
    | none => cmdError s .illegalCmd
  else .next s

/-- The engine's step on unit i; a number that names no unit moves nothing (log 14). -/
def engineMove (i : Nat) (s : State) : Result :=
  match s.select i with
  | some s' => engineStep s'
  | none => .next s

end Sys2Proof.Machine
end

