-- ==== Sys2Proof/Machine/HostProgram.lean ====
section
/-! DEFINITION. A host as an agent (30_encoding.md R307): the meaning of each host statement, the pseudo-instructions of
R311 as their expansions, and a host loaded with a program. It is no part of the block: it reaches it only through bus
accesses. -/

namespace Sys2Proof.Machine

/-- A host loaded with a program, driving the window at `base` (log 23): h0 to h7 zero, its arrays empty
(95_test_vectors.md §6). -/
def HostAgent.load (base : Nat) (prog : List Stmt) : HostAgent :=
  { base := base, prog := prog, pc := 0, regs := Vector.replicate 8 0, results := [], arrays := [] }

/-- A program stops after its last statement (R307). -/
def HostAgent.ended (h : HostAgent) : Bool := h.prog.length ≤ h.pc

/-- Does key (n, i) come before key (m, j)? -/
def keyBefore (n i m j : Nat) : Bool := n < m || (n == m && i < j)

/-- Write one cell of a host's private data: the list stays sorted by key, with no repeats; a later write replaces
(R307). -/
def putCell (c : HostCell) : List HostCell → List HostCell
  | [] => [c]
  | d :: ds =>
    if keyBefore c.name c.index d.name d.index then c :: d :: ds
    else if c.name = d.name ∧ c.index = d.index then c :: ds
    else d :: putCell c ds

/-- Read one cell; `none` if it was never written (R307). -/
def getCell (name index : Nat) (ds : List HostCell) : Option Word :=
  (ds.find? (fun d => d.name = name ∧ d.index = index)).map HostCell.value

/-- The host goes on to its next statement. -/
def HostAgent.advance (h : HostAgent) : HostAgent := { h with pc := h.pc + 1 }

/-- The host goes to a position. -/
def HostAgent.goto (h : HostAgent) (target : Nat) : HostAgent := { h with pc := target }

/-- `hN <- v`, then on to the next statement. -/
def HostAgent.set (h : HostAgent) (r : HReg) (v : Word) : HostAgent := { h with regs := h.regs.set r v, pc := h.pc + 1 }

/-- Host k becomes h. -/
def State.setHost (s : State) (k : Nat) (h : HostAgent) : State := { s with hosts := s.hosts.set k h }

/-- `RegWrite(off, v)` by host k in its own window (the model's choice, log 23); refused where it is not admitted
(20_memory.md R202). -/
def hostWrite (k : Nat) (h : HostAgent) (s : State) (off : Nat) (v : Word) : Result :=
  match s.busWrite (h.base + off) 64 v with
  | some s' => .next (s'.setHost k h.advance)
  | none => .refused .accessNotAdmitted

/-- `hN <- RegRead(off)` by host k in its own window (the model's choice, log 23); refused where it is not admitted
(20_memory.md R202). -/
def hostRead (k : Nat) (h : HostAgent) (s : State) (off : Nat) (r : HReg) : Result :=
  match s.busRead (h.base + off) 64 with
  | some v => .next (s.setHost k (h.set r v))
  | none => .refused .accessNotAdmitted

/-- A statement that touches no register of the block only changes the host. -/
def hostStays (k : Nat) (s : State) (h : HostAgent) : Result := .next (s.setHost k h)

/-- Where a conditional branch goes (R307). -/
def HostAgent.branch (h : HostAgent) (taken : Bool) (target : Nat) : HostAgent :=
  if taken then h.goto target else h.advance

/-- `HLOAD`: reading an index never written is a host fault (R307). -/
def hostLoad (k : Nat) (h : HostAgent) (s : State) (r : HReg) (name index : Nat) : Result :=
  match getCell name index h.arrays with
  | some v => hostStays k s (h.set r v)
  | none => .fault .hostArrayUnwritten

/-- One statement of host k, one atomic step (R307). -/
def runStmt (k : Nat) (h : HostAgent) (s : State) (st : Stmt) : Result :=
  match st with
  | .warg v => hostWrite k h s 0x08 v
  | .wargr r => hostWrite k h s 0x08 h.regs[r]
  | .wcmd i => hostWrite k h s 0x00 (encode i)
  | .wcmdRaw v => hostWrite k h s 0x00 v
  | .wcmdr r => hostWrite k h s 0x00 h.regs[r]
  | .rres r => hostRead k h s 0x10 r
  | .rstat r => hostRead k h s 0x18 r
  | .movi r v => hostStays k s (h.set r v)
  | .addi d a v => hostStays k s (h.set d (h.regs[a] + v))
  | .andi d a v => hostStays k s (h.set d (h.regs[a] &&& v))
  | .shli d a n => hostStays k s (h.set d (h.regs[a] <<< n.val))
  | .or d a b => hostStays k s (h.set d (h.regs[a] ||| h.regs[b]))
  | .bnez r target => hostStays k s (h.branch (h.regs[r] != 0) target)
  | .blti r v target => hostStays k s (h.branch (h.regs[r].toNat < v.toNat) target)
  | .jmp target => hostStays k s (h.goto target)
  | .store r name => hostStays k s { h.advance with results := putCell ⟨name, 0, h.regs[r]⟩ h.results }
  | .hstore r name index =>
    hostStays k s { h.advance with arrays := putCell ⟨name, h.regs[index].toNat, h.regs[r]⟩ h.arrays }
  | .hload r name index => hostLoad k h s r name h.regs[index].toNat
  | .halt => hostStays k s (h.goto h.prog.length)

/-- Host k's next statement; a host that has ended, or a number that names none, moves nothing (log 14). -/
def hostMove (k : Nat) (s : State) : Result :=
  match s.hosts[k]? with
  | some h =>
    match h.prog[h.pc]? with
    | some st => runStmt k h s st
    | none => .next s
  | none => .next s

/-- h7, the scratch register of the pseudo-instructions (R311). -/
def h7 : HReg := 7

/-- `WAIT` placed at position p: loop until STATUS.BUSY = 0 (R311). -/
def pseudoWait (p : Nat) : List Stmt := [.rstat h7, .andi h7 h7 1, .bnez h7 p]

/-- `ISSUE command` placed at position p (R311). -/
def pseudoIssue (p : Nat) (i : Instr) : List Stmt := pseudoWait p ++ [.wcmd i]

/-- `SEEDV variant, imm64` placed at position p (R311). -/
def pseudoSeedv (p : Nat) (v : Nat) (seed : Word) : List Stmt := pseudoWait p ++ [.warg seed, .wcmd (.seed v)]

/-- `GET hN` placed at position p (R311). -/
def pseudoGet (p : Nat) (r : HReg) : List Stmt := pseudoWait p ++ [.rres r]

/-- `CHKOK` placed at position p: to `errorLabel` if STATUS.ERR = 1 (R311). -/
def pseudoChkok (p : Nat) (errorLabel : Nat) : List Stmt :=
  pseudoWait p ++ [.rstat h7, .andi h7 h7 0x4, .bnez h7 errorLabel]

end Sys2Proof.Machine
end

