-- ==== Sys2Proof/Machine/Schedule.lean ====
section
/-! DEFINITION. What each move does, and who moves when the schedule is empty (20_memory.md R210; 70_reset_and_hazards.md
R700, R711). A schedule fixes one interleaving; a claim over every schedule is a claim over every interleaving. -/

namespace Sys2Proof.Machine

/-- A raw bus access (20_memory.md R202): a read's value goes to `rdata`. -/
def busMove (a : Access) (s : State) : Result :=
  match a with
  | .write addr bits v =>
    match s.busWrite addr bits v with
    | some s' => .next s'
    | none => .refused .accessNotAdmitted
  | .read addr bits =>
    match s.busRead addr bits with
    | some v => .next { s with rdata := v }
    | none => .refused .accessNotAdmitted

/-- Reset of unit i (R700): every piece of its state to the reset table, a pending command aborted; the window stays
where the platform placed it. -/
def resetMove (i : Nat) (s : State) : Result :=
  match s.select i with
  | some s' => .next { s' with xs := Xscore.reset s'.xs.base }
  | none => .next s

/-- One move. -/
def doMove (m : Move) (s : State) : Result :=
  match m with
  | .host k => hostMove k s
  | .engine i => engineMove i s
  | .access a => busMove a s
  | .reset i => resetMove i s

/-- Who moves when the schedule is empty (log 6): the selected unit's engine if it is enabled, else the first unit's
whose engine is, else the first host that has not ended, else nobody (R711's fairness; R624). -/
def autoMove (s : State) : Result :=
  if s.xs.pend then engineStep s
  else
    match s.units.findIdx? (fun x => x.pend) with
    | some i => engineMove i s
    | none =>
      match s.hosts.findIdx? (fun h => !h.ended) with
      | some k => hostMove k s
      | none => .next s

/-- A step: the next move of the schedule, or the automatic one. -/
def scheduledStep (s : State) : Result :=
  match s.sched with
  | m :: ms => doMove m { s with sched := ms }
  | [] => autoMove s

/-- The selected unit with the CMD value c accepted, as a write of c to CMD while PEND = 0 leaves it (R710), and no move
ahead of the engine's. -/
def State.withAccepted (s : State) (c : Word) : State :=
  { s with xs := { s.xs with cmdl := c, argl := s.xs.arg, pend := true, overrun := false }, sched := [] }

end Sys2Proof.Machine
end

