-- ==== Sys2Proof/Machine/Step.lean ====
section
/-! DEFINITION. The step of the machine, and the state whose next step runs a given command. -/

namespace Sys2Proof.Machine

/-- One step (00_scope.md R13): one host statement, one bus access, one engine step or one reset. -/
def step (s : State) : Host.Outcome State Fault Refusal := scheduledStep s

/-- XSCORE fetches nothing (10_state.md R101): a command comes to run by being accepted, and the next engine step runs it.
So this accepts the command word (log 11). -/
def State.withFetchWord (s : State) (nbits w : Nat) : State := s.withAccepted (cmdOfTableWord nbits w)

end Sys2Proof.Machine
end

