-- ==== Sys2Proof/Machine/Observe.lean ====
section
/-! DEFINITION. The end of a run and what is observed of it (70_reset_and_hazards.md R715). -/

namespace Sys2Proof.Machine

/-- A run is over when every host has executed its last statement and no unit has PEND = 1. R715 speaks of one host; that with
several all must have ended is the model's (DESIGN CHOICE, log 24). -/
def State.runEnded (s : State) : Bool := s.hosts.all HostAgent.ended && s.units.all (fun x => !x.pend)

/-- What a run shows of a unit (R715); nothing of S while SEEDED = 0. -/
structure UnitView where
  words : List Word
  cursor : Cursor
  var : BitVec 4
  seeded : Bool
  arg : Word
  res : Word
  status : Word
  deriving DecidableEq, Repr

/-- The view of one unit (R715). -/
def Xscore.view (x : Xscore) : UnitView :=
  { words := if x.seeded then StateArray.firstWords x.words x.var.len else []
    cursor := x.cursor
    var := x.var.code
    seeded := x.seeded
    arg := x.arg
    res := x.res
    status := statusWord x }

/-- The observation of a run: each host's result list, and each unit's view. R715 speaks of one host's list; that with several
there is one list for each is the model's (DESIGN CHOICE, log 24). -/
structure Observation where
  results : List (List HostCell)
  units : List UnitView
  deriving DecidableEq, Repr

/-- The observation at a state (R715; with several hosts, log 24). -/
def State.observe (s : State) : Observation :=
  { results := s.hosts.map HostAgent.results, units := s.units.map Xscore.view }

end Sys2Proof.Machine
end

