-- ==== Sys2Proof/Machine/Serialize.lean ====
section
/-! DEFINITION. State serialisation (20_memory.md R207): the serialised form of a seeded unit, reading it, the commands that
restore it, and issuing commands one after another to the selected unit, as a host that waits for BUSY = 0 does. -/

namespace Sys2Proof.Machine

/-- Issue one command to the idle selected unit: write ARG, write CMD, let the engine complete it (70_reset_and_hazards.md
R702, R710, R711). -/
def issue (arg : Word) (i : Instr) (s : State) : Result :=
  engineStep { s with xs := regWrite (regWrite s.xs .arg arg) .cmd (encode i) }

/-- Issue commands in order, each with its ARG value; stop at the first that does not answer a next state. -/
def issueAll : List (Word × Instr) → State → Result
  | [], s => .next s
  | (a, i) :: cs, s =>
    match issue a i s with
    | .next s' => issueAll cs s'
    | .fault f => .fault f
    | .refused r => .refused r

/-- The serialised form: VAR, S[0..N-1], then P for the rotating-buffer variants (R207). -/
def Xscore.serialized (x : Xscore) : List Word :=
  x.var.code.setWidth 64
    :: (StateArray.firstWords x.words x.var.len ++ if x.var.hasCursor then [x.cursor.setWidth 64] else [])

/-- The commands that read S[0..N-1] and P of a unit of variant v (R207). -/
def saveCommands (v : Variant) : List Instr :=
  (List.range v.len).map Instr.rdstate ++ if v.hasCursor then [.rdcur] else []

/-- Issue the reading commands in order, ARG left as it is: the RES each leaves, and the state after the last; `none` if one
does not answer a next state. -/
def readAll : List Instr → State → Option (List Word × State)
  | [], s => some ([], s)
  | i :: is, s =>
    match issue s.xs.arg i s with
    | .next t => (readAll is t).map (fun r => (t.xs.res :: r.1, r.2))
    | .fault _ => none
    | .refused _ => none

/-- The save procedure on the idle selected unit: VAR from STATUS[11:8] (10_state.md R108), then what the reading commands
return (R207). -/
def saveAll (s : State) : Option (List Word × State) :=
  (readAll (saveCommands s.xs.var) s).map
    (fun r => (((statusWord s.xs).extractLsb' 8 4).setWidth 64 :: r.1, r.2))

/-- The commands that restore a serialised form (R207): a SEED with the same VAR and any seed, a WRSTATE for each word, a WRCUR
for the rotating-buffer variants. A list whose first word names no variant is no serialised form and gives none. -/
def restoreCommands (form : List Word) (anySeed : Word) : List (Word × Instr) :=
  match form with
  | [] => []
  | code :: rest =>
    match variantOperand code.toNat with
    | some v =>
      (anySeed, .seed code.toNat)
        :: ((rest.take v.len).mapIdx (fun i w => (w, Instr.wrstate i))
            ++ if v.hasCursor then (rest.drop v.len).map (fun w => (w, Instr.wrcur)) else [])
    | none => []

end Sys2Proof.Machine
end

