-- ==== Sys2Proof/Safety.lean ====
section
/-! DEFINITION. The terms claims use: the invariant of a unit and of the machine; when a command raises which error, as
60_exceptions.md R600 to R602 state it, apart from the meanings; the generator run forward k steps; and the kinds of
frame. -/

namespace Sys2Proof.Machine

/-- What every reachable unit keeps: P in [0, N(VAR)), and 0 for a variant without a cursor (10_state.md R105); ECODE at
most 6 (60_exceptions.md R600, X8), and 0 exactly while ERR = 0 (10_state.md R108); the window 8-byte aligned (D6, log 4). -/
abbrev Xscore.Inv (x : Xscore) : Prop :=
  x.cursor.toNat < x.var.len
    ∧ (x.var.hasCursor = false → x.cursor = 0)
    ∧ x.ecode.toNat ≤ 6
    ∧ (x.err = false ↔ x.ecode = 0)
    ∧ x.base % 8 = 0

/-- A host's private data are in canonical form: sorted by key, no key twice (the model's choice, log 22). -/
abbrev cellsSorted (ds : List HostCell) : Prop :=
  ds.Pairwise (fun c d => keyBefore c.name c.index d.name d.index = true)

/-- What every reachable state keeps. -/
abbrev State.Inv (s : State) : Prop :=
  (∀ x ∈ s.units, x.Inv) ∧ (∀ h ∈ s.hosts, cellsSorted h.results ∧ cellsSorted h.arrays)

/-- The commands that check SEEDED (R601). -/
def checksSeeded : Instr → Bool
  | .next => true
  | .nexti63 => true
  | .jump => true
  | .rdstate _ => true
  | .wrstate _ => true
  | .rdcur => true
  | .wrcur => true
  | .nop => false
  | .seed _ => false
  | .rotl _ => false
  | .clrstat => false

/-- The variants without a jump polynomial are VAR 0, 1, 2 and 13 (R600, NO_JUMP). -/
def codeWithoutJump (c : BitVec 4) : Bool := c = 0 || c = 1 || c = 2 || c = 13

/-- The variants with a cursor are VAR 11, 12 and 13 (R600, NO_CURSOR). -/
def codeWithCursor (c : BitVec 4) : Bool := c = 11 || c = 12 || c = 13

/-- Does the command name a variant that does not exist (R600, BAD_VARIANT)? -/
def namesNoVariant : Instr → Bool
  | .seed v => 14 ≤ v
  | .nop => false
  | .next => false
  | .nexti63 => false
  | .jump => false
  | .rotl _ => false
  | .rdstate _ => false
  | .wrstate _ => false
  | .rdcur => false
  | .wrcur => false
  | .clrstat => false

/-- Does the command need a jump polynomial the unit's variant lacks (R600, NO_JUMP)? -/
def lacksJump (i : Instr) (x : Xscore) : Bool := i = .jump && codeWithoutJump x.var.code

/-- Does the command need a cursor the unit's variant lacks (R600, NO_CURSOR)? -/
def lacksCursor (i : Instr) (x : Xscore) : Bool := (i = .rdcur || i = .wrcur) && !codeWithCursor x.var.code

/-- Is the command's index or cursor operand at or above N(VAR) (R600, BAD_INDEX)? -/
def indexTooLarge (i : Instr) (x : Xscore) : Bool :=
  match i with
  | .rdstate k => x.var.len ≤ k
  | .wrstate k => x.var.len ≤ k
  | .wrcur => x.var.len ≤ x.argl.toNat
  | .nop => false
  | .seed _ => false
  | .next => false
  | .nexti63 => false
  | .jump => false
  | .rotl _ => false
  | .rdcur => false
  | .clrstat => false

/-- The one error a legal command raises on a unit, the first that applies in R602's order; `none` if it succeeds. -/
def commandError (i : Instr) (x : Xscore) : Option CmdError :=
  if namesNoVariant i then some .badVariant
  else if checksSeeded i && !x.seeded then some .notSeeded
  else if lacksJump i x then some .noJump
  else if lacksCursor i x then some .noCursor
  else if indexTooLarge i x then some .badIndex
  else none

/-- (S, P) after k generator steps, the outputs discarded. -/
def stepsFrom (v : Variant) (S : StateArray) (P : Cursor) : Nat → StateArray × Cursor
  | 0 => (S, P)
  | k + 1 =>
    let r := stepVar v (stepsFrom v S P k).1 (stepsFrom v S P k).2
    (r.words, r.cursor)

/-- The output of the (k+1)-th of those steps. -/
def outputAfter (v : Variant) (S : StateArray) (P : Cursor) (k : Nat) : Word :=
  (stepVar v (stepsFrom v S P k).1 (stepsFrom v S P k).2).out

/-- Word j of a state in cursor-relative coordinates, `v_j = S[(j + P) mod N]` (45_rotating_buffer.md R454). -/
def relativeWord (v : Variant) (S : StateArray) (P : Cursor) (j : Nat) : Word :=
  StateArray.word S ((j + P.toNat) % v.len)

/-- The polynomial q applied to the step map, word j in relative coordinates: the sum over GF(2) of the states k steps
ahead, over the k < n whose coefficient in q is 1 (46_jump.md R462). -/
def polynomialOfSteps (v : Variant) (q : List Word) (S : StateArray) (P : Cursor) (j : Nat) : Nat → Word
  | 0 => 0
  | n + 1 =>
    polynomialOfSteps v q S P j n
      ^^^ (if (q.getD (n / 64) 0).getLsbD (n % 64) then
             relativeWord v (stepsFrom v S P n).1 (stepsFrom v S P n).2 j
           else 0)

/-- Address `a` is in the window of unit i, which is x, and in no earlier unit's (20_memory.md R200; 60_exceptions.md
R620). On a platform whose windows do not overlap the last clause always holds. -/
abbrev State.atWindow (s : State) (i : Nat) (x : Xscore) (a : Nat) : Prop :=
  s.units[i]? = some x ∧ x.holds a = true ∧ ∀ y ∈ s.units.take i, y.holds a = false

/-- How many units have a command pending. -/
def State.pendingCount (s : State) : Nat := s.units.countP (fun x => x.pend)

/-- The commands that write RES when they succeed (10_state.md R107). -/
def writesRes : Instr → Bool
  | .next => true
  | .nexti63 => true
  | .rotl _ => true
  | .rdstate _ => true
  | .rdcur => true
  | .nop => false
  | .seed _ => false
  | .jump => false
  | .wrstate _ => false
  | .wrcur => false
  | .clrstat => false

/-- The commands that write S (10_state.md R102). -/
def writesWords : Instr → Bool
  | .seed _ => true
  | .next => true
  | .nexti63 => true
  | .jump => true
  | .wrstate _ => true
  | .nop => false
  | .rotl _ => false
  | .rdstate _ => false
  | .rdcur => false
  | .wrcur => false
  | .clrstat => false

/-- The commands that may change P: SEED, NEXT, NEXTI63 and WRCUR (10_state.md R105). -/
def writesCursor : Instr → Bool
  | .seed _ => true
  | .next => true
  | .nexti63 => true
  | .wrcur => true
  | .nop => false
  | .jump => false
  | .rotl _ => false
  | .rdstate _ => false
  | .wrstate _ => false
  | .rdcur => false
  | .clrstat => false

/-- SEED alone writes VAR and SEEDED (10_state.md R103, R104). -/
def isSeed : Instr → Bool
  | .seed _ => true
  | .nop => false
  | .next => false
  | .nexti63 => false
  | .jump => false
  | .rotl _ => false
  | .rdstate _ => false
  | .wrstate _ => false
  | .rdcur => false
  | .wrcur => false
  | .clrstat => false

end Sys2Proof.Machine
end

