-- ==== Sys2Proof/Certificates/Slice0/Obligations.lean ====
section
/-! DEFINITION. The statements for the provers. Most say what a command does as ONE equation: the next state is the old one
with the listed registers of the selected unit replaced. Such an equation is the instruction's result, its frame (every
register, unit, host and move it does not list is unchanged) and its completion at once. Formulas are written out from
the rules with BitVec's own rotation, not with the model's `rotl`. That such an equation keeps CMDL and ARGL, and S[N..63]
where a command writes words, is the model's (log 10): the spec leaves them unspecified and never read. -/

open Sys2Proof Sys2Proof.Machine

/-! ## Encoding -/

/-- 30_encoding.md R303, R306: the encoding of a command is a legal CMD value that decodes to that command. -/
def Obligations.DecodeOfEncodedCommand : Prop :=
  ∀ i : Instr, i.wellFormed = true → decode (encode i) = some i

/-- R301, R305, R306: a CMD value that decodes to a command is the encoding of that command and of no other. -/
def Obligations.EncodeOfDecodedCommand : Prop :=
  ∀ (c : Word) (i : Instr), decode c = some i → i.wellFormed = true ∧ encode i = c

/-- R303: the five conditions of legality; the decoder accepts exactly the legal values; exactly one row of the opcode map
selects a legal value and none an illegal one; executing an illegal value raises ILLEGAL_CMD (code 1) and has no other
effect. -/
def Obligations.LegalCommandValues : Prop :=
  (∀ c : Word,
    (legal c = true ↔
      c.toNat / 2 ^ 32 = 0 ∧ c.toNat / 2 ^ 14 % 2 ^ 18 = 0 ∧ c.toNat % 16 ≤ 0xA
        ∧ (c.toNat / 16 % 16 = 0 ∨ c.toNat % 16 = 0x1)
        ∧ (c.toNat / 256 % 64 = 0 ∨ c.toNat % 16 = 0x5 ∨ c.toNat % 16 = 0x6 ∨ c.toNat % 16 = 0x7))
    ∧ (legal c = true ↔ (opcodeMap.filter (fun r => r.selects c)).length = 1)
    ∧ (legal c = true ↔ ∃ i, decode c = some i))
  ∧ ∀ s : State, s.xs.pend = true → legal s.xs.cmdl = false →
      engineStep s = .next { s with xs := { s.xs with err := true
                                                      ecode := if s.xs.err then s.xs.ecode else 1
                                                      pend := false } }

/-- R301, R304, R306: CMD values written out from the spec's encodings. -/
def Obligations.SampleCommandWords : Prop :=
  decode 0x00000000 = some .nop ∧ decode 0x00000051 = some (.seed 5) ∧ decode 0x000000E1 = some (.seed 14)
    ∧ decode 0x00000002 = some .next ∧ decode 0x00000003 = some .nexti63 ∧ decode 0x00000004 = some .jump
    ∧ decode 0x00000705 = some (.rotl 7) ∧ decode 0x00000F06 = some (.rdstate 15)
    ∧ decode 0x00003F07 = some (.wrstate 63) ∧ decode 0x00000008 = some .rdcur ∧ decode 0x00000009 = some .wrcur
    ∧ decode 0x0000000A = some .clrstat ∧ decode 0x0000000B = none ∧ decode 0x00004305 = none
    ∧ decode 0x00000012 = none ∧ decode 0x00000100 = none ∧ decode 0x0000000100000000 = none

/-! ## The step, reset and the invariant -/

/-- 47_commands.md R500, 70_reset_and_hazards.md R711: a pending command that decodes to i runs as `exec i` on the unit it is
pending on. The engine clause is the rule's: on unit k when the next move is its engine's. The first clause is the model's
automatic order (log 6; R711 lets any number of host steps come first): on the selected unit when no move is placed. The
third is the model's `withFetchWord` (log 11). -/
def Obligations.StepRunsAcceptedCommand : Prop :=
  (∀ (s : State) (i : Instr), s.sched = [] → s.xs.pend = true → decode s.xs.cmdl = some i → step s = exec i s)
  ∧ (∀ (s : State) (i : Instr) (k : Nat) (ms : List Move) (x : Xscore),
      s.sched = .engine k :: ms → s.units[k]? = some x → x.pend = true → decode x.cmdl = some i →
      ∃ s' : State, s'.xs = x ∧ s'.left = s.units.take k ∧ s'.right = s.units.drop (k + 1) ∧ s'.units = s.units
        ∧ s'.hosts = s.hosts ∧ s'.sched = ms ∧ s'.rdata = s.rdata ∧ step s = exec i s')
  ∧ (∀ (s : State) (i : Instr) (nbits w : Nat), decodeTableWord nbits w = some i →
      step (s.withFetchWord nbits w) = exec i (s.withFetchWord nbits w))

/-- 10_state.md R113, R700, R620: after reset every unit's P, VAR, SEEDED, ARG, RES, STATUS and PEND are 0; there are
NUM_INSTANCES units, unit i's window at XS_BASE(i). Nothing is said of S, CMDL and ARGL, which the spec leaves
unspecified. -/
def Obligations.ResetStateOfEveryUnit : Prop :=
  State.reset.units.length = Config.numInstances
  ∧ (∀ (i : Nat) (x : Xscore), State.reset.units[i]? = some x → x.base = Config.xsBase i)
  ∧ ∀ x ∈ State.reset.units,
      x.cursor = 0 ∧ x.var.code = 0 ∧ x.seeded = false ∧ x.arg = 0 ∧ x.res = 0 ∧ statusWord x = 0 ∧ x.pend = false

/-- R700: a reset of unit i, pending command or not, leaves that unit in the reset state and every other unit alone. -/
def Obligations.ResetMoveResetsOneUnit : Prop :=
  ∀ (s : State) (i : Nat) (ms : List Move) (x : Xscore),
    s.sched = .reset i :: ms → s.units[i]? = some x →
    ∃ (t : State) (y : Xscore), step s = .next t ∧ t.units = s.units.set i y ∧ t.hosts = s.hosts ∧ t.sched = ms
      ∧ t.rdata = s.rdata ∧ y.base = x.base ∧ y.cursor = 0 ∧ y.var.code = 0 ∧ y.seeded = false ∧ y.arg = 0
      ∧ y.res = 0 ∧ statusWord y = 0 ∧ y.pend = false

/-- The invariant holds at reset: P in [0, N) and 0 without a cursor (R105), ECODE at most 6 (R600, X8) and 0 exactly while
ERR = 0 (R108); windows 8-byte aligned (decision D6, as log 4 codes it); and the hosts' data sorted, which is the model's
choice (log 22). -/
def Obligations.ResetSatisfiesInvariant : Prop := State.reset.Inv

/-- 10_state.md R105, R108; 60_exceptions.md R600; X8: every step, whichever agent takes it, keeps the invariant. Its clause
that windows are 8-byte aligned is decision D6, as log 4 codes it; its clause that the hosts' data are sorted is the model's
choice (log 22). -/
def Obligations.StepKeepsInvariant : Prop := ∀ s t : State, s.Inv → step s = .next t → t.Inv

/-- 00_scope.md R3, 46_jump.md R460: the fourteen variants: VAR code, N, cursor, and the k of the jump distance 2^k. Numbers
14 and 15 name none. -/
def Obligations.VariantTable : Prop :=
  ((List.range 14).map fun n => (Variant.ofNumber n).map fun v => (v.code.toNat, v.len, v.hasCursor, v.jumpExponent))
    = [ some (0, 1, false, none), some (1, 1, false, none), some (2, 1, false, none), some (3, 2, false, some 64),
        some (4, 2, false, some 64), some (5, 2, false, some 64), some (6, 2, false, some 64),
        some (7, 4, false, some 128), some (8, 4, false, some 128), some (9, 4, false, some 128),
        some (10, 8, false, some 256), some (11, 16, true, some 512), some (12, 16, true, some 512),
        some (13, 64, true, none) ]
  ∧ Variant.ofNumber 14 = none ∧ Variant.ofNumber 15 = none

/-! ## All commands at once -/

/-- 10_state.md R106, R110, R112, R604, R620; R711: every command answers a next state, never a fault or a refusal; the
command completes (PEND = 0); no command changes ARG, another unit, a host, a move to come, or the window (nor CMDL and
ARGL, log 10, nor the model's own bit, log 9); and none but CLRSTAT changes OVR. -/
def Obligations.EveryCommandCompletes : Prop :=
  ∀ (i : Instr) (s : State), ∃ t : State, exec i s = .next t
    ∧ t.left = s.left ∧ t.right = s.right ∧ t.hosts = s.hosts ∧ t.sched = s.sched ∧ t.rdata = s.rdata
    ∧ t.xs.pend = false ∧ t.xs.arg = s.xs.arg ∧ t.xs.base = s.xs.base ∧ t.xs.cmdl = s.xs.cmdl
    ∧ t.xs.argl = s.xs.argl ∧ t.xs.overrun = s.xs.overrun ∧ (i ≠ .clrstat → t.xs.ovr = s.xs.ovr)

/-- R102, R103, R104, R105, R107: who writes what. Only NEXT, NEXTI63, ROTL, RDSTATE and RDCUR write RES; only SEED writes
VAR and SEEDED; only SEED, NEXT, NEXTI63, JUMP and WRSTATE write S; only SEED, NEXT, NEXTI63 and WRCUR change P (JUMP
leaves a P in [0, N) as it was). -/
def Obligations.WritersOfEachRegister : Prop :=
  ∀ (i : Instr) (s t : State), exec i s = .next t →
    (writesRes i = false → t.xs.res = s.xs.res)
    ∧ (isSeed i = false → t.xs.var = s.xs.var ∧ t.xs.seeded = s.xs.seeded)
    ∧ (writesWords i = false → t.xs.words = s.xs.words)
    ∧ (writesCursor i = false → s.xs.cursor.toNat < s.xs.var.len → t.xs.cursor = s.xs.cursor)

/-- 60_exceptions.md R600, R602, R603: the error codes; a command raises the first error that applies in R602's order, and
then ERR = 1, ECODE keeps the first code, and NOTHING else changes; a command to which no error applies leaves ERR and
ECODE alone, unless it is CLRSTAT. -/
def Obligations.ErrorPriorityAndProcedure : Prop :=
  (∀ (i : Instr) (s : State) (e : CmdError), commandError i s.xs = some e →
    exec i s = .next { s with xs := { s.xs with err := true
                                                ecode := if s.xs.err then s.xs.ecode else e.code
                                                pend := false } })
  ∧ (∀ (i : Instr) (s : State), commandError i s.xs = none → i ≠ .clrstat →
      ∃ t : State, exec i s = .next t ∧ t.xs.err = s.xs.err ∧ t.xs.ecode = s.xs.ecode)
  ∧ CmdError.illegalCmd.code = 1 ∧ CmdError.badVariant.code = 2 ∧ CmdError.notSeeded.code = 3
  ∧ CmdError.noJump.code = 4 ∧ CmdError.badIndex.code = 5 ∧ CmdError.noCursor.code = 6

/-- R601: while SEEDED = 0 the seven state commands raise NOT_SEEDED (code 3), whatever their operands and whatever VAR
holds; NOP, SEED, ROTL and CLRSTAT do what they do whether SEEDED is 0 or 1. -/
def Obligations.SeededGuard : Prop :=
  (∀ (i : Instr) (s : State), checksSeeded i = true → s.xs.seeded = false →
    exec i s = .next { s with xs := { s.xs with err := true
                                                ecode := if s.xs.err then s.xs.ecode else 3
                                                pend := false } })
  ∧ (∀ (i : Instr) (s : State) (b : Bool), checksSeeded i = false →
      ∃ t u : State, exec i s = .next t ∧ exec i { s with xs := { s.xs with seeded := b } } = .next u
        ∧ { u with xs := { u.xs with seeded := t.xs.seeded } } = t)

/-! ## The commands one by one -/

/-- 47_commands.md R501: the all-zero word is NOP and no other word is; NOP only lets BUSY return to 0. -/
def Obligations.NopChangesOnlyBusy : Prop :=
  (∀ c : Word, decode c = some .nop ↔ c = 0)
  ∧ ∀ s : State, exec .nop s = .next { s with xs := { s.xs with pend := false } }

/-- R509: CLRSTAT clears ERR and ECODE, and OVR too, unless a CMD write was dropped while this CLRSTAT was pending: that
write keeps its OVR (the corner case of R509 as the model reads it, log 9). -/
def Obligations.ClrstatClearsStickyStatus : Prop :=
  (∀ s : State, exec .clrstat s
      = .next { s with xs := { s.xs with err := false, ecode := 0, ovr := s.xs.overrun, pend := false } })
  ∧ (∀ (x : Xscore) (c : Word), x.pend = false → (writeCmd x c).overrun = false)
  ∧ (∀ (x : Xscore) (c : Word), x.pend = true → (writeCmd x c).overrun = true)

/-- 40_bitrotate.md R400, R401: ROTL k puts ARGL rotated left by k in RES, for every k from 0 to 63: bit j of RES is bit
(j - k) mod 64 of ARGL. It needs no seed and changes nothing else. -/
def Obligations.RotlRotatesOperand : Prop :=
  ∀ (k : Nat) (s : State), k < 64 →
    exec (.rotl k) s = .next { s with xs := { s.xs with res := s.xs.argl.rotateLeft k, pend := false } }
    ∧ ∀ j < 64, (s.xs.argl.rotateLeft k).getLsbD j = s.xs.argl.getLsbD ((j + 64 - k) % 64)

/-- R400: the rotate primitive; and its three laws, which the spec derives from R400 ("Laws the rotation keeps", R402). -/
def Obligations.RotationLaws : Prop :=
  (∀ (x : Word) (k : Nat), k < 64 →
    rotl x k = (if k = 0 then x else (x <<< k) ||| (x >>> (64 - k)))
    ∧ ∀ j < 64, (rotl x k).getLsbD j = x.getLsbD ((j + 64 - k) % 64))
  ∧ (∀ (x : Word) (a b : Nat), a < 64 → b < 64 → rotl (rotl x a) b = rotl x ((a + b) % 64))
  ∧ (∀ (x : Word) (k : Nat), k < 64 →
      rotl (rotl x k) ((64 - k) % 64) = x ∧ rotl (rotl x ((64 - k) % 64)) k = x)
  ∧ (∀ (x y : Word) (k : Nat), k < 64 → rotl (x ^^^ y) k = rotl x k ^^^ rotl y k)

/-- 41_splitmix64.md R412, R413; R502: a SEED of a variant v < 14 sets VAR, P = 0 and SEEDED = 1 and writes S[0..N-1]: the
seed itself for v = 0, and S[i] = mix(seed + (i+1) * GAMMA) for the others; it leaves the words above (log 10), RES,
ERR, ECODE and OVR. A SEED of 14 or 15 raises BAD_VARIANT (code 2) and changes nothing else. -/
def Obligations.SeedExpandsOperand : Prop :=
  (∀ (v : Nat) (s : State), v < 14 →
    ∃ (w : Variant) (W : StateArray), w.code.toNat = v
      ∧ exec (.seed v) s = .next { s with xs := { s.xs with words := W, var := w, cursor := 0, seeded := true
                                                            pend := false } }
      ∧ (∀ i < w.len, StateArray.word W i
            = if v = 0 then s.xs.argl else mix (s.xs.argl + BitVec.ofNat 64 (i + 1) * 0x9E3779B97F4A7C15))
      ∧ ∀ i, w.len ≤ i → StateArray.word W i = StateArray.word s.xs.words i)
  ∧ ∀ (v : Nat) (s : State), 14 ≤ v → v < 16 →
      exec (.seed v) s = .next { s with xs := { s.xs with err := true
                                                          ecode := if s.xs.err then s.xs.ecode else 2
                                                          pend := false } }

/-- R410: GAMMA, and the SplitMix64 output function. -/
def Obligations.MixFormula : Prop :=
  Rom.gamma = 0x9E3779B97F4A7C15
  ∧ ∀ z : Word,
    let a := (z ^^^ (z >>> 30)) * 0xBF58476D1CE4E5B9
    let b := (a ^^^ (a >>> 27)) * 0x94D049BB133111EB
    mix z = b ^^^ (b >>> 31)

/-- R411, R503: NEXT on SPLITMIX64. S[1..63], CMDL and ARGL kept: log 10. -/
def Obligations.NextSplitMix64 : Prop :=
  ∀ s : State, s.xs.seeded = true → s.xs.var = .splitMix64 →
    let z := s.xs.words[0] + 0x9E3779B97F4A7C15
    exec .next s = .next { s with xs := { s.xs with words := s.xs.words.set 0 z, res := mix z, pend := false } }

/-- 42_xorshift64star.md R420, R421: NEXT on XORSHIFT64STAR_A returns the old state times the constant, on
XORSHIFT64STAR_B the new one; both permute the state alike (R503). S[1..63], CMDL and ARGL kept: log 10. -/
def Obligations.NextXorShift64Star : Prop :=
  ∀ s : State, s.xs.seeded = true →
    let x := s.xs.words[0]
    let x₁ := x ^^^ (x >>> 12)
    let x₂ := x₁ ^^^ (x₁ <<< 25)
    let y := x₂ ^^^ (x₂ >>> 27)
    (s.xs.var = .xorShift64StarA →
      exec .next s = .next { s with xs := { s.xs with words := s.xs.words.set 0 y
                                                      res := x * 0x2545F4914F6CDD1D
                                                      pend := false } })
    ∧ (s.xs.var = .xorShift64StarB →
      exec .next s = .next { s with xs := { s.xs with words := s.xs.words.set 0 y
                                                      res := y * 0x2545F4914F6CDD1D
                                                      pend := false } })

/-- 43_two_word.md R431, R432: NEXT on XORSHIFT128PLUS_A with the shift pair (18, 5) and on XORSHIFT128PLUS_B with
(17, 26) (R503). S[2..63], CMDL and ARGL kept: log 10. -/
def Obligations.NextXorShift128Plus : Prop :=
  ∀ (s : State) (shiftA shiftB : Nat), s.xs.seeded = true →
    (s.xs.var = .xorShift128PlusA ∧ shiftA = 18 ∧ shiftB = 5)
      ∨ (s.xs.var = .xorShift128PlusB ∧ shiftA = 17 ∧ shiftB = 26) →
    let s1 := s.xs.words[0] ^^^ (s.xs.words[0] <<< 23)
    let s0 := s.xs.words[1]
    let n1 := s1 ^^^ s0 ^^^ (s1 >>> shiftA) ^^^ (s0 >>> shiftB)
    exec .next s = .next { s with xs := { s.xs with words := (s.xs.words.set 0 s0).set 1 n1
                                                    res := n1 + s0
                                                    pend := false } }

/-- R433, R503: NEXT on XOROSHIRO128PLUS. S[2..63], CMDL and ARGL kept: log 10. -/
def Obligations.NextXoroShiro128Plus : Prop :=
  ∀ s : State, s.xs.seeded = true → s.xs.var = .xoroShiro128Plus →
    let s0 := s.xs.words[0]
    let s1 := s.xs.words[1] ^^^ s0
    exec .next s = .next { s with xs := { s.xs with
      words := (s.xs.words.set 0 (s0.rotateLeft 55 ^^^ s1 ^^^ (s1 <<< 14))).set 1 (s1.rotateLeft 36)
      res := s.xs.words[0] + s.xs.words[1]
      pend := false } }

/-- R434, R503: NEXT on XOROSHIRO128STARSTAR. S[2..63], CMDL and ARGL kept: log 10. -/
def Obligations.NextXoroShiro128StarStar : Prop :=
  ∀ s : State, s.xs.seeded = true → s.xs.var = .xoroShiro128StarStar →
    let s0 := s.xs.words[0]
    let s1 := s.xs.words[1] ^^^ s0
    exec .next s = .next { s with xs := { s.xs with
      words := (s.xs.words.set 0 (s0.rotateLeft 24 ^^^ s1 ^^^ (s1 <<< 16))).set 1 (s1.rotateLeft 37)
      res := (s0 * 5).rotateLeft 7 * 9
      pend := false } }

/-- 44_four_eight_word.md R440 to R443: NEXT on the three 256-bit variants: one update, three outputs computed from the old
words. The spec marks these formulas "from general knowledge, not in source" (log 16). -/
def Obligations.NextXoroShiro256 : Prop :=
  ∀ (s : State) (out : Word), s.xs.seeded = true →
    let s0 := s.xs.words[0]
    let s1 := s.xs.words[1]
    let s2 := s.xs.words[2]
    let s3 := s.xs.words[3]
    (s.xs.var = .xoroShiro256Plus ∧ out = s0 + s3)
      ∨ (s.xs.var = .xoroShiro256PlusPlus ∧ out = (s0 + s3).rotateLeft 23 + s0)
      ∨ (s.xs.var = .xoroShiro256StarStar ∧ out = (s1 * 5).rotateLeft 7 * 9) →
    exec .next s = .next { s with xs := { s.xs with
      words := (((s.xs.words.set 0 (s0 ^^^ (s3 ^^^ s1))).set 1 (s1 ^^^ (s2 ^^^ s0))).set 2
                  (s2 ^^^ s0 ^^^ (s1 <<< 17))).set 3 ((s3 ^^^ s1).rotateLeft 45)
      res := out
      pend := false } }

/-- R444: NEXT on XOROSHIRO512STARSTAR. The spec marks the formula "from general knowledge, not in source" (log 16). -/
def Obligations.NextXoroShiro512StarStar : Prop :=
  ∀ s : State, s.xs.seeded = true → s.xs.var = .xoroShiro512StarStar →
    let w := s.xs.words
    exec .next s = .next { s with xs := { s.xs with
      words := (((((((w.set 0 (w[0] ^^^ w[6])).set 1 (w[1] ^^^ (w[2] ^^^ w[0]))).set 2 (w[2] ^^^ w[0])).set 3
                  (w[3] ^^^ w[4])).set 4 (w[4] ^^^ (w[5] ^^^ w[1]))).set 5 (w[5] ^^^ w[1])).set 6
                  (w[6] ^^^ (w[7] ^^^ w[3]) ^^^ (w[1] <<< 11))).set 7 ((w[7] ^^^ w[3]).rotateLeft 21)
      res := (w[1] * 5).rotateLeft 7 * 9
      pend := false } }

/-- 45_rotating_buffer.md R450 to R453: NEXT on the three rotating-buffer variants, P in [0, N): exactly one word changes,
S[(P+1) mod N], and P moves there. The spec marks the shift counts "from general knowledge, not in source" (log 16). -/
def Obligations.NextRotatingBuffer : Prop :=
  ∀ (s : State) (n a b c : Nat) (mult : Word), s.xs.seeded = true →
    (s.xs.var = .xorShift1024Star ∧ (n, a, b, c, mult) = (16, 31, 11, 30, 1181783497276652981))
      ∨ (s.xs.var = .xorShift1024StarPhi ∧ (n, a, b, c, mult) = (16, 31, 11, 30, 0x9E3779B97F4A7C13))
      ∨ (s.xs.var = .xorShift4096Star ∧ (n, a, b, c, mult) = (64, 25, 3, 49, 8372773778140471301)) →
    s.xs.cursor.toNat < n →
    let pn := (s.xs.cursor.toNat + 1) % n
    let s0 := StateArray.word s.xs.words s.xs.cursor.toNat
    let s1 := StateArray.word s.xs.words pn
    let y := s1 ^^^ (s1 <<< a)
    let w := (s0 ^^^ (s0 >>> c)) ^^^ (y ^^^ (y >>> b))
    exec .next s = .next { s with xs := { s.xs with words := s.xs.words.setIfInBounds pn w
                                                    cursor := BitVec.ofNat 6 pn
                                                    res := w * mult
                                                    pend := false } }

/-- R504: NEXTI63 does to the state exactly what NEXT does, and RES is NEXT's output with bit 63 cleared. -/
def Obligations.Nexti63MasksNext : Prop :=
  ∀ s : State, s.xs.seeded = true →
    ∃ t : State, exec .next s = .next t
      ∧ exec .nexti63 s = .next { t with xs := { t.xs with res := t.xs.res &&& 0x7FFFFFFFFFFFFFFF } }
      ∧ (t.xs.res &&& 0x7FFFFFFFFFFFFFFF).toNat ≤ 2 ^ 63 - 1

/-- R505: RDSTATE i puts S[i] in RES when i < N(VAR), an absolute index, and raises BAD_INDEX (code 5) when i >= N(VAR). -/
def Obligations.RdstateReadsWord : Prop :=
  ∀ (i : Nat) (s : State), s.xs.seeded = true →
    (i < s.xs.var.len →
      exec (.rdstate i) s
        = .next { s with xs := { s.xs with res := StateArray.word s.xs.words i, pend := false } })
    ∧ (s.xs.var.len ≤ i →
      exec (.rdstate i) s = .next { s with xs := { s.xs with err := true
                                                             ecode := if s.xs.err then s.xs.ecode else 5
                                                             pend := false } })

/-- R506: WRSTATE i writes ARGL to S[i] when i < N(VAR), leaving every other word, VAR, P and RES; it raises BAD_INDEX
(code 5) when i >= N(VAR). -/
def Obligations.WrstateWritesWord : Prop :=
  ∀ (i : Nat) (s : State), s.xs.seeded = true →
    (i < s.xs.var.len →
      exec (.wrstate i) s
        = .next { s with xs := { s.xs with words := s.xs.words.setIfInBounds i s.xs.argl, pend := false } })
    ∧ (s.xs.var.len ≤ i →
      exec (.wrstate i) s = .next { s with xs := { s.xs with err := true
                                                             ecode := if s.xs.err then s.xs.ecode else 5
                                                             pend := false } })

/-- R507: RDCUR puts P, zero-extended, in RES for VAR 11, 12 and 13, and raises NO_CURSOR (code 6) for the others. -/
def Obligations.RdcurReadsCursor : Prop :=
  ∀ s : State, s.xs.seeded = true →
    (11 ≤ s.xs.var.code.toNat →
      exec .rdcur s = .next { s with xs := { s.xs with res := s.xs.cursor.setWidth 64, pend := false } })
    ∧ (s.xs.var.code.toNat < 11 →
      exec .rdcur s = .next { s with xs := { s.xs with err := true
                                                       ecode := if s.xs.err then s.xs.ecode else 6
                                                       pend := false } })

/-- R508: WRCUR writes P for VAR 11, 12 and 13 when ARGL, compared as a full 64-bit value, is below N(VAR), and raises
BAD_INDEX (code 5) when it is not; for the other variants it raises NO_CURSOR (code 6), whatever ARGL is. -/
def Obligations.WrcurWritesCursor : Prop :=
  ∀ s : State, s.xs.seeded = true →
    (11 ≤ s.xs.var.code.toNat → s.xs.argl.toNat < s.xs.var.len →
      exec .wrcur s = .next { s with xs := { s.xs with cursor := BitVec.ofNat 6 s.xs.argl.toNat, pend := false } })
    ∧ (11 ≤ s.xs.var.code.toNat → s.xs.var.len ≤ s.xs.argl.toNat →
      exec .wrcur s = .next { s with xs := { s.xs with err := true
                                                       ecode := if s.xs.err then s.xs.ecode else 5
                                                       pend := false } })
    ∧ (s.xs.var.code.toNat < 11 →
      exec .wrcur s = .next { s with xs := { s.xs with err := true
                                                       ecode := if s.xs.err then s.xs.ecode else 6
                                                       pend := false } })

/-! ## The jump -/

/-- 46_jump.md R461: the jump polynomial ROM, one entry for each variant, N words each, word 0 first; none for VAR 0, 1,
2 and 13 (R460). The spec derived the words by R462; its source gives none (log 17). Word 6 of VAR 10 and word 15 of VAR
11 and 12 are the derived ones, not the recalled ones (90_conflicts.md C7). -/
def Obligations.JumpRomTable : Prop :=
  Rom.jump .splitMix64 = []
    ∧ Rom.jump .xorShift64StarA = []
    ∧ Rom.jump .xorShift64StarB = []
    ∧ Rom.jump .xorShift128PlusA = [0x8A5CD789635D2DFF, 0x121FD2155C472F96]
    ∧ Rom.jump .xorShift128PlusB = [0x8C405782BCA686AD, 0xC44F35946FEF49C6]
    ∧ Rom.jump .xoroShiro128Plus = [0xBEAC0467EBA5FACB, 0xD86B048B86AA9922]
    ∧ Rom.jump .xoroShiro128StarStar = [0xDF900294D8F554A5, 0x170865DF4B3201FC]
    ∧ Rom.jump .xoroShiro256Plus = [0x180EC6D33CFD0ABA, 0xD5A61266F0C9392C, 0xA9582618E03FC9AA, 0x39ABDC4529B1661C]
    ∧ Rom.jump .xoroShiro256PlusPlus = [0x180EC6D33CFD0ABA, 0xD5A61266F0C9392C, 0xA9582618E03FC9AA, 0x39ABDC4529B1661C]
    ∧ Rom.jump .xoroShiro256StarStar = [0x180EC6D33CFD0ABA, 0xD5A61266F0C9392C, 0xA9582618E03FC9AA, 0x39ABDC4529B1661C]
    ∧ Rom.jump .xoroShiro512StarStar =
        [ 0x33ED89B6E7A353F9, 0x760083D7955323BE, 0x2837F2FBB5F22FAE, 0x4B8C5674D309511C,
          0xB11AC47A7BA28C25, 0xF1BE7667092BCC1C, 0x53851EFDB6DF0AAF, 0x1EBBC8B23EAF25DB ]
    ∧ Rom.jump .xorShift1024Star =
        [ 0x84242F96ECA9C41D, 0xA3C65B8776F96855, 0x5B34A39F070B5837, 0x4489AFFCE4F31A1E,
          0x2FFEEB0A48316F40, 0xDC2D9891FE68C022, 0x3659132BB12FEA70, 0xAAC17D8EFA43CAB8,
          0xC4CB815590989B13, 0x5EE975283D71C93B, 0x691548C86C1BD540, 0x7910C41D10A1E6A5,
          0x0B5FC64563B3E2A8, 0x047F7684E9FC949D, 0xB99181F2D8F685CA, 0x284600E3F30E38C3 ]
    ∧ Rom.jump .xorShift1024StarPhi =
        [ 0x84242F96ECA9C41D, 0xA3C65B8776F96855, 0x5B34A39F070B5837, 0x4489AFFCE4F31A1E,
          0x2FFEEB0A48316F40, 0xDC2D9891FE68C022, 0x3659132BB12FEA70, 0xAAC17D8EFA43CAB8,
          0xC4CB815590989B13, 0x5EE975283D71C93B, 0x691548C86C1BD540, 0x7910C41D10A1E6A5,
          0x0B5FC64563B3E2A8, 0x047F7684E9FC949D, 0xB99181F2D8F685CA, 0x284600E3F30E38C3 ]
    ∧ Rom.jump .xorShift4096Star = []
    ∧ ∀ v : Variant, (Rom.jump v).length = if v.hasJump then v.len else 0

/-- 46_jump.md R462, R463, R465: JUMP on a jump variant replaces S[0..N-1] by the ROM polynomial applied to the step map, in
cursor-relative coordinates: the sum over GF(2) of the states k steps ahead, over every k < 64N whose coefficient is
1. P, RES and the words at or above N are unchanged (the latter is the model's, log 10). On VAR 0, 1, 2 and 13 it raises
NO_JUMP (code 4). -/
def Obligations.JumpAppliesPolynomial : Prop :=
  ∀ s : State, s.xs.seeded = true →
    (3 ≤ s.xs.var.code.toNat → s.xs.var.code.toNat ≤ 12 → s.xs.cursor.toNat < s.xs.var.len →
      ∃ W : StateArray, exec .jump s = .next { s with xs := { s.xs with words := W, pend := false } }
        ∧ (∀ j < s.xs.var.len,
            relativeWord s.xs.var W s.xs.cursor j
              = polynomialOfSteps s.xs.var (Rom.jump s.xs.var) s.xs.words s.xs.cursor j (64 * s.xs.var.len))
        ∧ ∀ i, s.xs.var.len ≤ i → StateArray.word W i = StateArray.word s.xs.words i)
    ∧ (s.xs.var.code.toNat < 3 ∨ s.xs.var.code.toNat = 13 →
      exec .jump s = .next { s with xs := { s.xs with err := true
                                                      ecode := if s.xs.err then s.xs.ecode else 4
                                                      pend := false } })

/-- "J commutes with T" (R466, which the spec derives): NEXT then JUMP leaves the same S, P and VAR as JUMP then
NEXT, on every jump variant (S[N..63] too: log 10). -/
def Obligations.JumpCommutesWithNext : Prop :=
  ∀ s : State, s.xs.seeded = true → 3 ≤ s.xs.var.code.toNat → s.xs.var.code.toNat ≤ 12 →
    s.xs.cursor.toNat < s.xs.var.len →
    ∃ a b c d : State, exec .next s = .next a ∧ exec .jump a = .next b ∧ exec .jump s = .next c
      ∧ exec .next c = .next d
      ∧ b.xs.words = d.xs.words ∧ b.xs.cursor = d.xs.cursor ∧ b.xs.var = d.xs.var

/-- R460, and R464 as the spec derives it ("the final (S, P) equals the (S, P) that 2^k consecutive NEXT steps would
reach"): on the four 2-word variants JUMP leaves exactly the state that 2^64 NEXT steps would reach. The ROM words are
derived too (log 17), and S[2..63], CMDL and ARGL kept are the model's (log 10). -/
def Obligations.JumpSkipsTwoTo64Steps : Prop :=
  ∀ s : State, s.xs.seeded = true → s.xs.cursor = 0 → 3 ≤ s.xs.var.code.toNat → s.xs.var.code.toNat ≤ 6 →
    exec .jump s
      = .next { s with xs := { s.xs with words := (stepsFrom s.xs.var s.xs.words s.xs.cursor (2 ^ 64)).1
                                         pend := false } }

/-! ## Properties of the generators -/

/-- 41_splitmix64.md R414, which the spec derives from R410: mix is a bijection of 64-bit words and is 0 exactly at 0. -/
def Obligations.MixIsBijective : Prop := Function.Bijective mix ∧ ∀ z : Word, mix z = 0 ↔ z = 0

/-- R414 and 10_state.md R114, both derived by the spec: after a SEED of a variant with N >= 2 some state word is
non-zero, whatever the seed; after a SEED of variant 1 or 2 the state word is 0 exactly for the seed 0x61C8864680B583EB.
-/
def Obligations.SeedIsAllZeroForOneSeedOnly : Prop :=
  ∀ (v : Nat) (s : State), v < 14 →
    ∃ t : State, exec (.seed v) s = .next t
      ∧ (3 ≤ v → ∃ i < t.xs.var.len, StateArray.word t.xs.words i ≠ 0)
      ∧ (v = 1 ∨ v = 2 → (StateArray.word t.xs.words 0 = 0 ↔ s.xs.argl = 0x61C8864680B583EB))

/-- R114, which the spec derives from the step rules: from a state whose words S[0..N-1] are all 0, on every variant but
SPLITMIX64, NEXT and NEXTI63 return 0 and keep the words 0, and JUMP, where there is one, keeps them 0. -/
def Obligations.AllZeroStateIsFixed : Prop :=
  ∀ s : State, s.xs.seeded = true → s.xs.var ≠ .splitMix64 → s.xs.cursor.toNat < s.xs.var.len →
    (∀ i < s.xs.var.len, StateArray.word s.xs.words i = 0) →
    ∃ t u w : State, exec .next s = .next t ∧ exec .nexti63 s = .next u ∧ exec .jump s = .next w
      ∧ t.xs.res = 0 ∧ u.xs.res = 0
      ∧ ∀ i < s.xs.var.len, StateArray.word t.xs.words i = 0 ∧ StateArray.word u.xs.words i = 0
          ∧ StateArray.word w.xs.words i = 0

/-- 42_xorshift64star.md R422, which the spec derives from R420 and R421: variants 1 and 2 visit the same states, and
output k of variant 2 is output k+1 of variant 1 (the states compared with S[1..63], log 10). -/
def Obligations.XorShift64StarFormsAgree : Prop :=
  ∀ (S : StateArray) (P : Cursor) (k : Nat),
    stepsFrom .xorShift64StarA S P k = stepsFrom .xorShift64StarB S P k
    ∧ outputAfter .xorShift64StarB S P k = outputAfter .xorShift64StarA S P (k + 1)

/-- R422, which the spec derives from R420: perm64 is a bijection that fixes 0, so no non-zero state ever reaches 0. -/
def Obligations.Perm64IsBijective : Prop :=
  Function.Bijective perm64 ∧ perm64 0 = 0
  ∧ ∀ (S : StateArray) (P : Cursor) (k : Nat), StateArray.word S 0 ≠ 0 →
      StateArray.word (stepsFrom .xorShift64StarA S P k).1 0 ≠ 0

/-- R415, R435, R445, R454, which the spec derives ("a bijection"): on every variant the state step is injective on
S[0..N-1]: two states with the same cursor whose successors agree in S[0..N-1] agree there. -/
def Obligations.StateStepIsInjective : Prop :=
  ∀ (v : Variant) (S S' : StateArray) (P : Cursor), P.toNat < v.len →
    (∀ i < v.len, StateArray.word (stepVar v S P).words i = StateArray.word (stepVar v S' P).words i) →
    ∀ i < v.len, StateArray.word S i = StateArray.word S' i

/-- 00_scope.md R12: identical (S, P), where S is S[0..N-1] (10_state.md R102), give identical outputs and identical
successor states, now and after any number of steps: S[N..63] have no influence. -/
def Obligations.FutureDependsOnStateOnly : Prop :=
  ∀ (v : Variant) (S S' : StateArray) (P : Cursor), P.toNat < v.len →
    (∀ i < v.len, StateArray.word S i = StateArray.word S' i) →
    ∀ k : Nat, outputAfter v S P k = outputAfter v S' P k
      ∧ (stepsFrom v S P k).2 = (stepsFrom v S' P k).2
      ∧ ∀ i < v.len, StateArray.word (stepsFrom v S P k).1 i = StateArray.word (stepsFrom v S' P k).1 i

/-! ## The register window, the handshake, hosts -/

/-- 10_state.md R108: the fields of STATUS. -/
def Obligations.StatusFieldLayout : Prop :=
  ∀ x : Xscore, (statusWord x).getLsbD 0 = x.pend ∧ (statusWord x).getLsbD 1 = x.seeded
    ∧ (statusWord x).getLsbD 2 = x.err ∧ (statusWord x).getLsbD 3 = x.ovr
    ∧ (statusWord x).extractLsb' 4 4 = x.ecode ∧ (statusWord x).extractLsb' 8 4 = x.var.code
    ∧ (statusWord x).extractLsb' 12 52 = 0

/-- R109, R710: a 64-bit write of c to CMD while PEND = 0 is accepted, legal or not: in the same step CMDL <- c, ARGL <- ARG
and PEND <- 1, and nothing else of the machine changes. (`overrun` is the model's own bit, log 9.) -/
def Obligations.CmdWriteWhileIdleIsAccepted : Prop :=
  ∀ (s : State) (i : Nat) (x : Xscore) (c : Word) (ms : List Move),
    s.sched = .access (.write x.base 64 c) :: ms → s.atWindow i x x.base → x.pend = false →
    ∃ t : State, step s = .next t
      ∧ t.units = s.units.set i { x with cmdl := c, argl := x.arg, pend := true, overrun := false }
      ∧ t.hosts = s.hosts ∧ t.sched = ms ∧ t.rdata = s.rdata

/-- R712: a 64-bit write to CMD while PEND = 1 is dropped and sets OVR; the pending command, CMDL, ARGL, ERR, ECODE and
everything else are unchanged. (`overrun` is the model's own bit, log 9.) -/
def Obligations.CmdWriteWhileBusyIsDropped : Prop :=
  ∀ (s : State) (i : Nat) (x : Xscore) (c : Word) (ms : List Move),
    s.sched = .access (.write x.base 64 c) :: ms → s.atWindow i x x.base → x.pend = true →
    ∃ t : State, step s = .next t ∧ t.units = s.units.set i { x with ovr := true, overrun := true }
      ∧ t.hosts = s.hosts ∧ t.sched = ms ∧ t.rdata = s.rdata

/-- R106, R204, R713: a 64-bit write to ARG sets ARG and nothing else, busy or not: ARGL keeps its value. -/
def Obligations.ArgWriteSetsArgOnly : Prop :=
  ∀ (s : State) (i : Nat) (x : Xscore) (v : Word) (ms : List Move),
    s.sched = .access (.write (x.base + 0x08) 64 v) :: ms → s.atWindow i x (x.base + 0x08) →
    ∃ t : State, step s = .next t ∧ t.units = s.units.set i { x with arg := v }
      ∧ t.hosts = s.hosts ∧ t.sched = ms ∧ t.rdata = s.rdata

/-- R107, R108, R204: 64-bit writes to RES and STATUS are ignored: every unit, host and later move is as before. -/
def Obligations.ResAndStatusWritesAreIgnored : Prop :=
  ∀ (s : State) (i off : Nat) (x : Xscore) (v : Word) (ms : List Move), off = 0x10 ∨ off = 0x18 →
    s.sched = .access (.write (x.base + off) 64 v) :: ms → s.atWindow i x (x.base + off) →
    ∃ t : State, step s = .next t ∧ t.units = s.units ∧ t.hosts = s.hosts ∧ t.sched = ms ∧ t.rdata = s.rdata

/-- R201, R204, R713: a 64-bit read returns 0 at CMD, and ARG, RES and STATUS at theirs, and has no side effect: the
machine is as before but for the value returned. -/
def Obligations.ReadsReturnRegistersWithoutEffect : Prop :=
  ∀ (s : State) (i off : Nat) (x : Xscore) (v : Word) (ms : List Move),
    (off = 0x00 ∧ v = 0) ∨ (off = 0x08 ∧ v = x.arg) ∨ (off = 0x10 ∧ v = x.res) ∨ (off = 0x18 ∧ v = statusWord x) →
    s.sched = .access (.read (x.base + off) 64) :: ms → s.atWindow i x (x.base + off) →
    step s = .next { s with sched := ms, rdata := v }

/-- 20_memory.md R202: an access that does not move all 64 bits, or is at no register of any unit, is refused, read or
write. -/
def Obligations.OtherAccessesAreRefused : Prop :=
  ∀ (s : State) (addr bits : Nat) (v : Word) (ms : List Move),
    (bits ≠ 64 ∨ ∀ x ∈ s.units, ∀ off ∈ [0x00, 0x08, 0x10, 0x18], addr ≠ x.base + off) →
    (s.sched = .access (.write addr bits v) :: ms → step s = .refused .accessNotAdmitted)
    ∧ (s.sched = .access (.read addr bits) :: ms → step s = .refused .accessNotAdmitted)

/-- 60_exceptions.md R620: no step adds or removes a unit, each step changes one unit at most, and an engine move changes
no unit but its own. -/
def Obligations.UnitsAreIndependent : Prop :=
  ∀ s t : State, step s = .next t →
    t.units.length = s.units.length
    ∧ (∃ i : Nat, ∀ j : Nat, j ≠ i → t.units[j]? = s.units[j]?)
    ∧ ∀ (i : Nat) (ms : List Move), s.sched = .engine i :: ms → ∀ j : Nat, j ≠ i → t.units[j]? = s.units[j]?

/-- 20_memory.md R207, whose result the spec derives. Saving: on an idle seeded unit STATUS.VAR, RDSTATE 0..N-1 and RDCUR
yield the serialised form, and leave VAR, S, P, SEEDED, ERR, ECODE and the idle state as they were. Restoring that form,
with any seed and on any idle unit, leaves VAR, S[0..N-1] and P equal to the saved unit's, raises no error, and leaves the
unit idle and seeded, RES as before. -/
def Obligations.RestoreReproducesSavedState : Prop :=
  (∀ s : State, s.xs.pend = false → s.xs.seeded = true →
    ∃ t : State, saveAll s = some (s.xs.serialized, t)
      ∧ t.xs.var = s.xs.var ∧ t.xs.words = s.xs.words ∧ t.xs.cursor = s.xs.cursor ∧ t.xs.seeded = true
      ∧ t.xs.pend = false ∧ t.xs.err = s.xs.err ∧ t.xs.ecode = s.xs.ecode)
  ∧ ∀ (s : State) (x : Xscore) (anySeed : Word), s.xs.pend = false → x.cursor.toNat < x.var.len →
    (x.var.hasCursor = false → x.cursor = 0) →
    ∃ t : State, issueAll (restoreCommands x.serialized anySeed) s = .next t
      ∧ t.xs.var = x.var ∧ t.xs.cursor = x.cursor
      ∧ (∀ i < x.var.len, StateArray.word t.xs.words i = StateArray.word x.words i)
      ∧ t.xs.seeded = true ∧ t.xs.pend = false ∧ t.xs.err = s.xs.err ∧ t.xs.ecode = s.xs.ecode
      ∧ t.xs.res = s.xs.res

/-- R711: every accepted command completes: while some unit has a command pending and no move is placed, a step completes
one. (The order, engines before hosts, is the model's, log 6.) -/
def Obligations.PendingCommandsComplete : Prop :=
  ∀ s : State, s.sched = [] → 0 < s.pendingCount →
    ∃ t : State, step s = .next t ∧ t.pendingCount + 1 = s.pendingCount ∧ t.sched = [] ∧ t.hosts = s.hosts

/-- R624, R715: a machine whose run has ended and on which no move is placed holds its state. That nobody else then
moves is the model's automatic order (log 6); that a run of several hosts ends when all have ended is its choice (log 24). -/
def Obligations.IdleMachineHoldsItsState : Prop :=
  ∀ s : State, s.sched = [] → s.runEnded = true → step s = .next s

/-- 30_encoding.md R307, R710: a host's `WCMD command` on an idle unit issues that command's encoding and moves the host on.
That a host drives one window, its `base`, is the model's choice (log 23); `overrun` is the model's bit (log 9). -/
def Obligations.HostCommandIsIssued : Prop :=
  ∀ (s : State) (k u : Nat) (h : HostAgent) (x : Xscore) (i : Instr) (ms : List Move),
    s.sched = .host k :: ms → s.hosts[k]? = some h → h.prog[h.pc]? = some (.wcmd i) → x.base = h.base →
    s.atWindow u x x.base → x.pend = false →
    ∃ t : State, step s = .next t
      ∧ t.units = s.units.set u { x with cmdl := encode i, argl := x.arg, pend := true, overrun := false }
      ∧ t.hosts = s.hosts.set k { h with pc := h.pc + 1 } ∧ t.sched = ms ∧ t.rdata = s.rdata

/-- R307: `RSTAT hN` puts STATUS in hN and changes no unit; `HLOAD` of an index never written is a host fault.
That a host drives one window, its `base`, is the model's choice (log 23), and so is that its fault stops the machine (log
21). -/
def Obligations.HostReadsAndFaults : Prop :=
  ∀ (s : State) (k : Nat) (h : HostAgent) (ms : List Move), s.sched = .host k :: ms → s.hosts[k]? = some h →
    (∀ (u : Nat) (x : Xscore) (r : HReg), h.prog[h.pc]? = some (.rstat r) → x.base = h.base →
      s.atWindow u x (x.base + 0x18) →
      step s = .next { s with sched := ms
                              hosts := s.hosts.set k { h with regs := h.regs.set r (statusWord x), pc := h.pc + 1 } })
    ∧ (∀ (r j : HReg) (name : Nat), h.prog[h.pc]? = some (.hload r name j) →
      (∀ c ∈ h.arrays, ¬(c.name = name ∧ c.index = h.regs[j].toNat)) →
      step s = .fault .hostArrayUnwritten)
end

