-- ==== Sys2Proof/Laws/Cells.lean ====
section
/-! SUPPORT. A host's private data: a write keeps the canonical form (sorted by key, no key twice), a read after it gives
the value written, and every other key reads as before. -/

namespace Sys2Proof.Machine

theorem keyBefore_iff (n i m j : Nat) : keyBefore n i m j = true ↔ n < m ∨ (n = m ∧ i < j) := by
  simp [keyBefore]

/-- A cell of the list after a write is the written one or an old one. -/
theorem mem_putCell (c d : HostCell) (ds : List HostCell) (h : d ∈ putCell c ds) : d = c ∨ d ∈ ds := by
  induction ds with
  | nil => simpa [putCell] using h
  | cons e es ih =>
    unfold putCell at h
    split at h
    · simpa using h
    · split at h
      · rcases List.mem_cons.mp h with h | h
        · exact .inl h
        · exact .inr (List.mem_cons_of_mem _ h)
      · rcases List.mem_cons.mp h with h | h
        · exact .inr (h ▸ List.mem_cons_self ..)
        · exact (ih h).imp_right (List.mem_cons_of_mem _)

theorem putCell_sorted (c : HostCell) (ds : List HostCell) (h : cellsSorted ds) : cellsSorted (putCell c ds) := by
  induction ds with
  | nil => simp [putCell]
  | cons e es ih =>
    replace h := List.pairwise_cons.mp h
    unfold putCell
    split
    · rename_i hce
      refine List.pairwise_cons.mpr ⟨fun d hd => ?_, List.pairwise_cons.mpr h⟩
      rcases List.mem_cons.mp hd with rfl | hd
      · exact hce
      · have hed := h.1 d hd
        rw [keyBefore_iff] at *
        omega
    · rename_i hce
      split
      · rename_i heq
        refine List.pairwise_cons.mpr ⟨fun d hd => ?_, h.2⟩
        rw [heq.1, heq.2]
        exact h.1 d hd
      · rename_i hne
        refine List.pairwise_cons.mpr ⟨fun d hd => ?_, ih h.2⟩
        rcases mem_putCell c d es hd with rfl | hd
        · rw [keyBefore_iff] at *
          omega
        · exact h.1 d hd

theorem getCell_putCell_same (c : HostCell) (ds : List HostCell) :
    getCell c.name c.index (putCell c ds) = some c.value := by
  induction ds with
  | nil => simp [putCell, getCell]
  | cons e es ih =>
    unfold putCell
    split
    · simp [getCell]
    · split
      · simp [getCell]
      · rename_i hne
        have hne' : ¬(e.name = c.name ∧ e.index = c.index) := fun h => hne ⟨h.1.symm, h.2.symm⟩
        simpa [getCell, List.find?_cons, hne'] using ih

theorem getCell_putCell_ne (c : HostCell) (ds : List HostCell) (name index : Nat)
    (h : ¬(c.name = name ∧ c.index = index)) : getCell name index (putCell c ds) = getCell name index ds := by
  induction ds with
  | nil => simp [putCell, getCell, h]
  | cons e es ih =>
    unfold putCell
    split
    · simp [getCell, List.find?_cons, h]
    · split
      · rename_i heq
        have he : ¬(e.name = name ∧ e.index = index) := by rw [← heq.1, ← heq.2]; exact h
        simp [getCell, h, he]
      · by_cases he : e.name = name ∧ e.index = index
        · simp [getCell, he]
        · simpa [getCell, List.find?_cons, he] using ih

end Sys2Proof.Machine
end

