-- ==== Sys2Proof/Laws/Words.lean ====
section
/-! SUPPORT. The laws of the state array: a read after a write gives the value written, and a write leaves every other word
alone. -/

namespace Sys2Proof.Machine

theorem StateArray.word_eq_getElem (S : StateArray) (i : Nat) (h : i < 64) : StateArray.word S i = S[i] := by
  simp [StateArray.word, Vector.getD, h]

theorem StateArray.word_of_le (S : StateArray) (i : Nat) (h : 64 ≤ i) : StateArray.word S i = 0 := by
  simp [StateArray.word, Vector.getD, Nat.not_lt.mpr h]

theorem StateArray.word_setWord (S : StateArray) (i j : Nat) (v : Word) (h : i < 64) :
    StateArray.word (StateArray.setWord S i v) j = if i = j then v else StateArray.word S j := by
  rcases Nat.lt_or_ge j 64 with hj | hj
  · rw [word_eq_getElem _ _ hj, word_eq_getElem _ _ hj]
    simp [StateArray.setWord, Vector.getElem_setIfInBounds]
  · rw [word_of_le _ _ hj, word_of_le _ _ hj, if_neg (by omega)]

@[simp] theorem StateArray.word_setWord_same (S : StateArray) (i : Nat) (v : Word) (h : i < 64) :
    StateArray.word (StateArray.setWord S i v) i = v := by
  rw [word_setWord S i i v h, if_pos rfl]

theorem StateArray.word_setWord_ne (S : StateArray) (i j : Nat) (v : Word) (hij : i ≠ j) :
    StateArray.word (StateArray.setWord S i v) j = StateArray.word S j := by
  rcases Nat.lt_or_ge i 64 with hi | hi
  · rw [word_setWord S i j v hi, if_neg hij]
  · have : StateArray.setWord S i v = S := by
      simp [StateArray.setWord, Vector.setIfInBounds, Array.setIfInBounds, Nat.not_lt.mpr hi]
    rw [this]

/-- Two arrays with the same 64 words are the same array. -/
theorem StateArray.ext_words (S S' : StateArray) (h : ∀ i < 64, StateArray.word S i = StateArray.word S' i) : S = S' := by
  apply Vector.ext
  intro i hi
  rw [← word_eq_getElem _ _ hi, ← word_eq_getElem _ _ hi]
  exact h i hi

/-- Words written from index k on: word j is the (j - k)-th of the list where the list reaches it, else as before. -/
theorem StateArray.word_setWords (ws : List Word) (S : StateArray) (k j : Nat) (h : k + ws.length ≤ 64) :
    StateArray.word (StateArray.setWords S k ws) j
      = if k ≤ j ∧ j < k + ws.length then ws.getD (j - k) 0 else StateArray.word S j := by
  induction ws generalizing S k with
  | nil => rw [if_neg (by simp)]; rfl
  | cons w ws ih =>
    simp only [List.length_cons] at h ⊢
    rw [StateArray.setWords, ih _ (k + 1) (by omega)]
    rcases Nat.lt_trichotomy j k with hj | rfl | hj
    · rw [if_neg (by omega), if_neg (by omega), word_setWord_ne _ _ _ _ (by omega)]
    · rw [if_neg (by omega), if_pos (by omega), word_setWord_same _ _ _ (by omega)]
      simp
    · by_cases hlt : j < k + 1 + ws.length
      · rw [if_pos (by omega), if_pos (by omega)]
        obtain ⟨m, rfl⟩ : ∃ m, j = k + 1 + m := ⟨j - (k + 1), by omega⟩
        simp [show k + 1 + m - k = m + 1 by omega]
      · rw [if_neg (by omega), if_neg (by omega), word_setWord_ne _ _ _ _ (by omega)]

@[simp] theorem StateArray.length_firstWords (S : StateArray) (n : Nat) : (StateArray.firstWords S n).length = n := by
  simp [StateArray.firstWords]

@[simp] theorem StateArray.word_zero (i : Nat) : StateArray.word StateArray.zero i = 0 := by
  rcases Nat.lt_or_ge i 64 with h | h
  · rw [word_eq_getElem _ _ h]; simp [StateArray.zero]
  · exact word_of_le _ _ h

end Sys2Proof.Machine
end

