-- ==== Sys2Proof/Laws/Generator.lean ====
section
/-! SUPPORT. What a generator step can do, once for all variants: where P goes, and that no word at or above N changes. And
what a machine step is: the next move, or the automatic one. -/

namespace Sys2Proof.Machine

/-- P goes on by one modulo N on the rotating-buffer variants, and stays on the others. -/
theorem stepVar_cursor (v : Variant) (S : StateArray) (P : Cursor) :
    (stepVar v S P).cursor = if v.hasCursor then nextCursor v.len P else P := by
  cases v <;> rfl

theorem nextCursor_lt (v : Variant) (P : Cursor) : (nextCursor v.len P).toNat < v.len := by
  have hpos : 0 < v.len := by cases v <;> decide
  have hle : v.len ≤ 64 := by cases v <;> decide
  have h := Nat.mod_lt (P.toNat + 1) hpos
  simp only [nextCursor, BitVec.toNat_ofNat]
  omega

/-- The words at or above N never change. -/
theorem stepVar_word_of_le (v : Variant) (S : StateArray) (P : Cursor) (i : Nat) (h : v.len ≤ i) :
    StateArray.word (stepVar v S P).words i = StateArray.word S i := by
  have hn := nextCursor_lt v P
  cases v <;> simp only [Variant.len] at h hn <;>
    simp only [stepVar, stepSplitMix64, stepXorShift64StarA, stepXorShift64StarB, stepXorShift128PlusA,
      stepXorShift128PlusB, xorShift128Plus, stepXoroShiro128Plus, stepXoroShiro128StarStar, xoroShiro128Update,
      stepXoroShiro256Plus, stepXoroShiro256PlusPlus, stepXoroShiro256StarStar, upd256, stepXoroShiro512StarStar, upd512,
      stepXorShift1024Star, stepXorShift1024StarPhi, stepXorShift4096Star, stepRotating, StateArray.setWords] <;>
    (repeat rw [StateArray.word_setWord_ne _ _ _ _ (by omega)])

theorem length_expand (t : Word) (n : Nat) : (expand t n).length = n := by
  induction n generalizing t with
  | zero => rfl
  | succ n ih => simp [expand, ih]

theorem step_of_move {s : State} {m : Move} {ms : List Move} (h : s.sched = m :: ms) :
    step s = doMove m { s with sched := ms } := by
  simp [step, scheduledStep, h]

theorem step_of_no_move {s : State} (h : s.sched = []) : step s = autoMove s := by
  simp [step, scheduledStep, h]

end Sys2Proof.Machine
end

