-- ==== Sys2Proof/Laws/State.lean ====
section
/-! SUPPORT. Beside the state: what each named update leaves in each field, one lemma per field per update, all true by
definition. No later proof needs to unfold a record update. -/

namespace Sys2Proof.Machine

@[simp] theorem State.finish_left (s : State) (x : Xscore) :
    (s.finish x).left = s.left := rfl
@[simp] theorem State.finish_xs (s : State) (x : Xscore) :
    (s.finish x).xs = { x with pend := false } := rfl
@[simp] theorem State.finish_right (s : State) (x : Xscore) :
    (s.finish x).right = s.right := rfl
@[simp] theorem State.finish_hosts (s : State) (x : Xscore) :
    (s.finish x).hosts = s.hosts := rfl
@[simp] theorem State.finish_sched (s : State) (x : Xscore) :
    (s.finish x).sched = s.sched := rfl
@[simp] theorem State.finish_rdata (s : State) (x : Xscore) :
    (s.finish x).rdata = s.rdata := rfl

@[simp] theorem recordError_base (x : Xscore) (e : CmdError) :
    (recordError x e).base = x.base := rfl
@[simp] theorem recordError_words (x : Xscore) (e : CmdError) :
    (recordError x e).words = x.words := rfl
@[simp] theorem recordError_cursor (x : Xscore) (e : CmdError) :
    (recordError x e).cursor = x.cursor := rfl
@[simp] theorem recordError_var (x : Xscore) (e : CmdError) :
    (recordError x e).var = x.var := rfl
@[simp] theorem recordError_seeded (x : Xscore) (e : CmdError) :
    (recordError x e).seeded = x.seeded := rfl
@[simp] theorem recordError_arg (x : Xscore) (e : CmdError) :
    (recordError x e).arg = x.arg := rfl
@[simp] theorem recordError_res (x : Xscore) (e : CmdError) :
    (recordError x e).res = x.res := rfl
@[simp] theorem recordError_err (x : Xscore) (e : CmdError) :
    (recordError x e).err = true := rfl
@[simp] theorem recordError_ovr (x : Xscore) (e : CmdError) :
    (recordError x e).ovr = x.ovr := rfl
@[simp] theorem recordError_ecode (x : Xscore) (e : CmdError) :
    (recordError x e).ecode = if x.err then x.ecode else e.code := rfl
@[simp] theorem recordError_pend (x : Xscore) (e : CmdError) :
    (recordError x e).pend = x.pend := rfl
@[simp] theorem recordError_cmdl (x : Xscore) (e : CmdError) :
    (recordError x e).cmdl = x.cmdl := rfl
@[simp] theorem recordError_argl (x : Xscore) (e : CmdError) :
    (recordError x e).argl = x.argl := rfl
@[simp] theorem recordError_overrun (x : Xscore) (e : CmdError) :
    (recordError x e).overrun = x.overrun := rfl

@[simp] theorem recordOverrun_base (x : Xscore) :
    (recordOverrun x).base = x.base := rfl
@[simp] theorem recordOverrun_words (x : Xscore) :
    (recordOverrun x).words = x.words := rfl
@[simp] theorem recordOverrun_cursor (x : Xscore) :
    (recordOverrun x).cursor = x.cursor := rfl
@[simp] theorem recordOverrun_var (x : Xscore) :
    (recordOverrun x).var = x.var := rfl
@[simp] theorem recordOverrun_seeded (x : Xscore) :
    (recordOverrun x).seeded = x.seeded := rfl
@[simp] theorem recordOverrun_arg (x : Xscore) :
    (recordOverrun x).arg = x.arg := rfl
@[simp] theorem recordOverrun_res (x : Xscore) :
    (recordOverrun x).res = x.res := rfl
@[simp] theorem recordOverrun_err (x : Xscore) :
    (recordOverrun x).err = x.err := rfl
@[simp] theorem recordOverrun_ovr (x : Xscore) :
    (recordOverrun x).ovr = true := rfl
@[simp] theorem recordOverrun_ecode (x : Xscore) :
    (recordOverrun x).ecode = x.ecode := rfl
@[simp] theorem recordOverrun_pend (x : Xscore) :
    (recordOverrun x).pend = x.pend := rfl
@[simp] theorem recordOverrun_cmdl (x : Xscore) :
    (recordOverrun x).cmdl = x.cmdl := rfl
@[simp] theorem recordOverrun_argl (x : Xscore) :
    (recordOverrun x).argl = x.argl := rfl
@[simp] theorem recordOverrun_overrun (x : Xscore) :
    (recordOverrun x).overrun = true := rfl

@[simp] theorem clearSticky_base (x : Xscore) :
    (clearSticky x).base = x.base := rfl
@[simp] theorem clearSticky_words (x : Xscore) :
    (clearSticky x).words = x.words := rfl
@[simp] theorem clearSticky_cursor (x : Xscore) :
    (clearSticky x).cursor = x.cursor := rfl
@[simp] theorem clearSticky_var (x : Xscore) :
    (clearSticky x).var = x.var := rfl
@[simp] theorem clearSticky_seeded (x : Xscore) :
    (clearSticky x).seeded = x.seeded := rfl
@[simp] theorem clearSticky_arg (x : Xscore) :
    (clearSticky x).arg = x.arg := rfl
@[simp] theorem clearSticky_res (x : Xscore) :
    (clearSticky x).res = x.res := rfl
@[simp] theorem clearSticky_err (x : Xscore) :
    (clearSticky x).err = false := rfl
@[simp] theorem clearSticky_ovr (x : Xscore) :
    (clearSticky x).ovr = x.overrun := rfl
@[simp] theorem clearSticky_ecode (x : Xscore) :
    (clearSticky x).ecode = 0 := rfl
@[simp] theorem clearSticky_pend (x : Xscore) :
    (clearSticky x).pend = x.pend := rfl
@[simp] theorem clearSticky_cmdl (x : Xscore) :
    (clearSticky x).cmdl = x.cmdl := rfl
@[simp] theorem clearSticky_argl (x : Xscore) :
    (clearSticky x).argl = x.argl := rfl
@[simp] theorem clearSticky_overrun (x : Xscore) :
    (clearSticky x).overrun = x.overrun := rfl

@[simp] theorem afterStep_base (x : Xscore) (r : Stepped) (out : Word) :
    (afterStep x r out).base = x.base := rfl
@[simp] theorem afterStep_words (x : Xscore) (r : Stepped) (out : Word) :
    (afterStep x r out).words = r.words := rfl
@[simp] theorem afterStep_cursor (x : Xscore) (r : Stepped) (out : Word) :
    (afterStep x r out).cursor = r.cursor := rfl
@[simp] theorem afterStep_var (x : Xscore) (r : Stepped) (out : Word) :
    (afterStep x r out).var = x.var := rfl
@[simp] theorem afterStep_seeded (x : Xscore) (r : Stepped) (out : Word) :
    (afterStep x r out).seeded = x.seeded := rfl
@[simp] theorem afterStep_arg (x : Xscore) (r : Stepped) (out : Word) :
    (afterStep x r out).arg = x.arg := rfl
@[simp] theorem afterStep_res (x : Xscore) (r : Stepped) (out : Word) :
    (afterStep x r out).res = out := rfl
@[simp] theorem afterStep_err (x : Xscore) (r : Stepped) (out : Word) :
    (afterStep x r out).err = x.err := rfl
@[simp] theorem afterStep_ovr (x : Xscore) (r : Stepped) (out : Word) :
    (afterStep x r out).ovr = x.ovr := rfl
@[simp] theorem afterStep_ecode (x : Xscore) (r : Stepped) (out : Word) :
    (afterStep x r out).ecode = x.ecode := rfl
@[simp] theorem afterStep_pend (x : Xscore) (r : Stepped) (out : Word) :
    (afterStep x r out).pend = x.pend := rfl
@[simp] theorem afterStep_cmdl (x : Xscore) (r : Stepped) (out : Word) :
    (afterStep x r out).cmdl = x.cmdl := rfl
@[simp] theorem afterStep_argl (x : Xscore) (r : Stepped) (out : Word) :
    (afterStep x r out).argl = x.argl := rfl
@[simp] theorem afterStep_overrun (x : Xscore) (r : Stepped) (out : Word) :
    (afterStep x r out).overrun = x.overrun := rfl

@[simp] theorem afterSeed_base (x : Xscore) (v : Variant) :
    (afterSeed x v).base = x.base := rfl
@[simp] theorem afterSeed_words (x : Xscore) (v : Variant) :
    (afterSeed x v).words = StateArray.setWords x.words 0 (seedWords v x.argl) := rfl
@[simp] theorem afterSeed_cursor (x : Xscore) (v : Variant) :
    (afterSeed x v).cursor = 0 := rfl
@[simp] theorem afterSeed_var (x : Xscore) (v : Variant) :
    (afterSeed x v).var = v := rfl
@[simp] theorem afterSeed_seeded (x : Xscore) (v : Variant) :
    (afterSeed x v).seeded = true := rfl
@[simp] theorem afterSeed_arg (x : Xscore) (v : Variant) :
    (afterSeed x v).arg = x.arg := rfl
@[simp] theorem afterSeed_res (x : Xscore) (v : Variant) :
    (afterSeed x v).res = x.res := rfl
@[simp] theorem afterSeed_err (x : Xscore) (v : Variant) :
    (afterSeed x v).err = x.err := rfl
@[simp] theorem afterSeed_ovr (x : Xscore) (v : Variant) :
    (afterSeed x v).ovr = x.ovr := rfl
@[simp] theorem afterSeed_ecode (x : Xscore) (v : Variant) :
    (afterSeed x v).ecode = x.ecode := rfl
@[simp] theorem afterSeed_pend (x : Xscore) (v : Variant) :
    (afterSeed x v).pend = x.pend := rfl
@[simp] theorem afterSeed_cmdl (x : Xscore) (v : Variant) :
    (afterSeed x v).cmdl = x.cmdl := rfl
@[simp] theorem afterSeed_argl (x : Xscore) (v : Variant) :
    (afterSeed x v).argl = x.argl := rfl
@[simp] theorem afterSeed_overrun (x : Xscore) (v : Variant) :
    (afterSeed x v).overrun = x.overrun := rfl

@[simp] theorem State.setHost_left (s : State) (k : Nat) (h : HostAgent) :
    (s.setHost k h).left = s.left := rfl
@[simp] theorem State.setHost_xs (s : State) (k : Nat) (h : HostAgent) :
    (s.setHost k h).xs = s.xs := rfl
@[simp] theorem State.setHost_right (s : State) (k : Nat) (h : HostAgent) :
    (s.setHost k h).right = s.right := rfl
@[simp] theorem State.setHost_hosts (s : State) (k : Nat) (h : HostAgent) :
    (s.setHost k h).hosts = s.hosts.set k h := rfl
@[simp] theorem State.setHost_sched (s : State) (k : Nat) (h : HostAgent) :
    (s.setHost k h).sched = s.sched := rfl
@[simp] theorem State.setHost_rdata (s : State) (k : Nat) (h : HostAgent) :
    (s.setHost k h).rdata = s.rdata := rfl

@[simp] theorem State.withAccepted_left (s : State) (c : Word) :
    (s.withAccepted c).left = s.left := rfl
@[simp] theorem State.withAccepted_xs (s : State) (c : Word) :
    (s.withAccepted c).xs = { s.xs with cmdl := c, argl := s.xs.arg, pend := true, overrun := false } := rfl
@[simp] theorem State.withAccepted_right (s : State) (c : Word) :
    (s.withAccepted c).right = s.right := rfl
@[simp] theorem State.withAccepted_hosts (s : State) (c : Word) :
    (s.withAccepted c).hosts = s.hosts := rfl
@[simp] theorem State.withAccepted_sched (s : State) (c : Word) :
    (s.withAccepted c).sched = [] := rfl
@[simp] theorem State.withAccepted_rdata (s : State) (c : Word) :
    (s.withAccepted c).rdata = s.rdata := rfl

@[simp] theorem HostAgent.advance_base (h : HostAgent) :
    (h.advance).base = h.base := rfl
@[simp] theorem HostAgent.advance_prog (h : HostAgent) :
    (h.advance).prog = h.prog := rfl
@[simp] theorem HostAgent.advance_pc (h : HostAgent) :
    (h.advance).pc = h.pc + 1 := rfl
@[simp] theorem HostAgent.advance_regs (h : HostAgent) :
    (h.advance).regs = h.regs := rfl
@[simp] theorem HostAgent.advance_results (h : HostAgent) :
    (h.advance).results = h.results := rfl
@[simp] theorem HostAgent.advance_arrays (h : HostAgent) :
    (h.advance).arrays = h.arrays := rfl

@[simp] theorem HostAgent.goto_base (h : HostAgent) (n : Nat) :
    (h.goto n).base = h.base := rfl
@[simp] theorem HostAgent.goto_prog (h : HostAgent) (n : Nat) :
    (h.goto n).prog = h.prog := rfl
@[simp] theorem HostAgent.goto_pc (h : HostAgent) (n : Nat) :
    (h.goto n).pc = n := rfl
@[simp] theorem HostAgent.goto_regs (h : HostAgent) (n : Nat) :
    (h.goto n).regs = h.regs := rfl
@[simp] theorem HostAgent.goto_results (h : HostAgent) (n : Nat) :
    (h.goto n).results = h.results := rfl
@[simp] theorem HostAgent.goto_arrays (h : HostAgent) (n : Nat) :
    (h.goto n).arrays = h.arrays := rfl

@[simp] theorem HostAgent.set_base (h : HostAgent) (r : HReg) (v : Word) :
    (h.set r v).base = h.base := rfl
@[simp] theorem HostAgent.set_prog (h : HostAgent) (r : HReg) (v : Word) :
    (h.set r v).prog = h.prog := rfl
@[simp] theorem HostAgent.set_pc (h : HostAgent) (r : HReg) (v : Word) :
    (h.set r v).pc = h.pc + 1 := rfl
@[simp] theorem HostAgent.set_regs (h : HostAgent) (r : HReg) (v : Word) :
    (h.set r v).regs = h.regs.set r v := rfl
@[simp] theorem HostAgent.set_results (h : HostAgent) (r : HReg) (v : Word) :
    (h.set r v).results = h.results := rfl
@[simp] theorem HostAgent.set_arrays (h : HostAgent) (r : HReg) (v : Word) :
    (h.set r v).arrays = h.arrays := rfl

@[simp] theorem Xscore.reset_base (b : Nat) :
    (Xscore.reset b).base = b := rfl
@[simp] theorem Xscore.reset_cursor (b : Nat) :
    (Xscore.reset b).cursor = 0 := rfl
@[simp] theorem Xscore.reset_var (b : Nat) :
    (Xscore.reset b).var = .splitMix64 := rfl
@[simp] theorem Xscore.reset_seeded (b : Nat) :
    (Xscore.reset b).seeded = false := rfl
@[simp] theorem Xscore.reset_arg (b : Nat) :
    (Xscore.reset b).arg = 0 := rfl
@[simp] theorem Xscore.reset_res (b : Nat) :
    (Xscore.reset b).res = 0 := rfl
@[simp] theorem Xscore.reset_err (b : Nat) :
    (Xscore.reset b).err = false := rfl
@[simp] theorem Xscore.reset_ovr (b : Nat) :
    (Xscore.reset b).ovr = false := rfl
@[simp] theorem Xscore.reset_ecode (b : Nat) :
    (Xscore.reset b).ecode = 0 := rfl
@[simp] theorem Xscore.reset_pend (b : Nat) :
    (Xscore.reset b).pend = false := rfl

end Sys2Proof.Machine
end

