-- ==== Sys2Proof/Laws/Ops.lean ====
section
/-! SUPPORT. One lemma for each shared operation that says once what it does: completing a command and the error procedure,
the SEEDED guard, the operand forms, selecting a unit, finding a register, bus reads and writes. -/

namespace Sys2Proof.Machine

/-! ## Commands -/

theorem complete_eq (s : State) (x : Xscore) : complete s x = .next { s with xs := { x with pend := false } } := rfl

theorem cmdError_eq (s : State) (e : CmdError) :
    cmdError s e = .next { s with xs := { s.xs with ecode := if s.xs.err then s.xs.ecode else e.code
                                                    err := true
                                                    pend := false } } := rfl

theorem whenSeeded_of_seeded {s : State} (h : s.xs.seeded = true) (k : Result) : whenSeeded s k = k := by
  simp [whenSeeded, h]

theorem whenSeeded_of_unseeded {s : State} (h : s.xs.seeded = false) (k : Result) :
    whenSeeded s k = cmdError s .notSeeded := by
  simp [whenSeeded, h]

theorem indexOperand_eq_some {x : Xscore} {i j : Nat} : indexOperand x i = some j ↔ i < x.var.len ∧ i = j := by
  unfold indexOperand
  split <;> simp_all

theorem indexOperand_eq_none {x : Xscore} {i : Nat} : indexOperand x i = none ↔ x.var.len ≤ i := by
  unfold indexOperand
  split <;> simp_all

theorem cursorOperand_eq_some {x : Xscore} {P : Cursor} :
    cursorOperand x = some P ↔ x.argl.toNat < x.var.len ∧ x.argl.setWidth 6 = P := by
  unfold cursorOperand
  split <;> simp_all

theorem cursorOperand_eq_none {x : Xscore} : cursorOperand x = none ↔ x.var.len ≤ x.argl.toNat := by
  unfold cursorOperand
  split <;> simp_all

theorem variantOperand_eq_none {v : Nat} : variantOperand v = none ↔ 14 ≤ v := by
  constructor
  · intro h
    by_contra hv
    have : v < 14 := by omega
    interval_cases v <;> simp [variantOperand, Variant.ofNumber] at h
  · intro h
    obtain ⟨n, rfl⟩ : ∃ n, v = n + 14 := ⟨v - 14, by omega⟩
    rfl

theorem variantOperand_code (w : Variant) : variantOperand w.code.toNat = some w := by
  cases w <;> rfl

theorem Variant.len_pos (v : Variant) : 0 < v.len := by cases v <;> decide

theorem Variant.len_le (v : Variant) : v.len ≤ 64 := by cases v <;> decide

/-! ## Units -/

/-- Selecting succeeds exactly for a unit there is; the unit list, the hosts, the moves and the read data stay. -/
theorem State.select_spec {s s' : State} {i : Nat} (h : s.select i = some s') :
    s.units[i]? = some s'.xs ∧ s'.left = s.units.take i ∧ s'.right = s.units.drop (i + 1) ∧ s'.units = s.units
      ∧ s'.hosts = s.hosts ∧ s'.sched = s.sched ∧ s'.rdata = s.rdata := by
  unfold State.select at h
  split at h
  · rename_i x hx
    cases h
    refine ⟨hx, rfl, rfl, ?_, rfl, rfl, rfl⟩
    obtain ⟨hi, rfl⟩ := List.getElem?_eq_some_iff.mp hx
    simp [State.units]
  · cases h

theorem State.select_isSome {s : State} {i : Nat} {x : Xscore} (h : s.units[i]? = some x) :
    s.select i = some { s with left := s.units.take i, xs := x, right := s.units.drop (i + 1) } := by
  simp [State.select, h]

theorem State.select_eq_none {s : State} {i : Nat} : s.select i = none ↔ s.units[i]? = none := by
  unfold State.select
  split <;> simp_all

/-- Replacing the selected unit of a state in which unit i was selected replaces unit i. -/
theorem State.units_of_select {s : State} {i : Nat} {x : Xscore} (h : s.units[i]? = some x) (y : Xscore)
    (hosts : List HostAgent) (sched : List Move) (rdata : Word) :
    State.units { left := s.units.take i, xs := y, right := s.units.drop (i + 1), hosts := hosts, sched := sched
                  rdata := rdata } = s.units.set i y := by
  obtain ⟨hi, -⟩ := List.getElem?_eq_some_iff.mp h
  show s.units.take i ++ y :: s.units.drop (i + 1) = _
  rw [List.set_eq_take_append_cons_drop, if_pos hi]

/-! ## The register window -/

/-- A register is found only by a 64-bit access, in the first unit whose window holds the address, at one of the four
offsets. -/
theorem State.target_spec {s : State} {addr bits i : Nat} {r : Reg} (h : s.target addr bits = some (i, r)) :
    bits = 64 ∧ ∃ x, s.units[i]? = some x ∧ x.holds addr = true ∧ regAt (addr - x.base) = some r := by
  unfold State.target at h
  split at h
  · rename_i j hj
    split at h
    · rename_i x hx
      split at h
      · rename_i hb
        cases hr : regAt (addr - x.base) with
        | none => rw [hr] at h; simp at h
        | some r' =>
          rw [hr] at h
          simp only [Option.map_some, Option.some.injEq, Prod.mk.injEq] at h
          obtain ⟨rfl, rfl⟩ := h
          refine ⟨hb, x, hx, ?_, hr⟩
          obtain ⟨hlt, hp, -⟩ := List.findIdx?_eq_some_iff_getElem.mp hj
          obtain ⟨-, rfl⟩ := List.getElem?_eq_some_iff.mp hx
          exact hp
      · cases h
    · cases h
  · cases h

/-- What a bus write does when it is admitted: it replaces one unit by `regWrite` of it, and nothing else. -/
theorem State.busWrite_spec {s s' : State} {addr bits : Nat} {v : Word} (h : s.busWrite addr bits v = some s') :
    ∃ i x r, s.target addr bits = some (i, r) ∧ s.units[i]? = some x ∧ s'.units = s.units.set i (regWrite x r v)
      ∧ s'.hosts = s.hosts ∧ s'.sched = s.sched ∧ s'.rdata = s.rdata := by
  unfold State.busWrite at h
  split at h
  · rename_i i r ht
    obtain ⟨-, x, hx, -, -⟩ := State.target_spec ht
    rw [State.select_isSome hx] at h
    cases h
    exact ⟨i, x, r, ht, hx, State.units_of_select hx _ _ _ _, rfl, rfl, rfl⟩
  · cases h

/-- What a bus read returns when it is admitted: the register's value. -/
theorem State.busRead_spec {s : State} {addr bits : Nat} {v : Word} (h : s.busRead addr bits = some v) :
    ∃ i x r, s.target addr bits = some (i, r) ∧ s.units[i]? = some x ∧ v = regRead x r := by
  unfold State.busRead at h
  split at h
  · rename_i i r ht
    obtain ⟨-, x, hx, -, -⟩ := State.target_spec ht
    rw [hx] at h
    cases h
    exact ⟨i, x, r, ht, hx, rfl⟩
  · cases h

theorem writeCmd_of_idle {x : Xscore} (h : x.pend = false) (c : Word) :
    writeCmd x c = { x with cmdl := c, argl := x.arg, pend := true, overrun := false } := by
  simp [writeCmd, h]

theorem writeCmd_of_busy {x : Xscore} (h : x.pend = true) (c : Word) :
    writeCmd x c = { x with ovr := true, overrun := true } := by
  simp [writeCmd, h, recordOverrun]

end Sys2Proof.Machine
end

