-- ==== Sys2Proof/Laws/PerInstr.lean ====
section
/-! SUPPORT. A law per instruction, as syntax: the encoding of a well-formed command keeps the reserved bits [63:14] zero
(30_encoding.md R303, conditions 1 and 2). -/

namespace Sys2Proof.Laws

/-- The encoding's reserved bits are zero. -/
def ReservedBitsZero.Statement (i : Instr) : Prop := i.wellFormed = true → (encode i).extractLsb' 14 50 = 0

theorem ReservedBitsZero.nop : ReservedBitsZero.Statement .nop := fun _ => by decide
theorem ReservedBitsZero.seed (v : Nat) : ReservedBitsZero.Statement (.seed v) := fun h => by
  have hv : v < 16 := by simpa [Instr.wellFormed] using h
  interval_cases v <;> decide
theorem ReservedBitsZero.next : ReservedBitsZero.Statement .next := fun _ => by decide
theorem ReservedBitsZero.nexti63 : ReservedBitsZero.Statement .nexti63 := fun _ => by decide
theorem ReservedBitsZero.jump : ReservedBitsZero.Statement .jump := fun _ => by decide
theorem ReservedBitsZero.rotl (k : Nat) : ReservedBitsZero.Statement (.rotl k) := fun h => by
  have hk : k < 64 := by simpa [Instr.wellFormed] using h
  interval_cases k <;> decide
theorem ReservedBitsZero.rdstate (i : Nat) : ReservedBitsZero.Statement (.rdstate i) := fun h => by
  have hi : i < 64 := by simpa [Instr.wellFormed] using h
  interval_cases i <;> decide
theorem ReservedBitsZero.wrstate (i : Nat) : ReservedBitsZero.Statement (.wrstate i) := fun h => by
  have hi : i < 64 := by simpa [Instr.wellFormed] using h
  interval_cases i <;> decide
theorem ReservedBitsZero.rdcur : ReservedBitsZero.Statement .rdcur := fun _ => by decide
theorem ReservedBitsZero.wrcur : ReservedBitsZero.Statement .wrcur := fun _ => by decide
theorem ReservedBitsZero.clrstat : ReservedBitsZero.Statement .clrstat := fun _ => by decide

end Sys2Proof.Laws
end

