-- ==== Sys2Proof/Laws/Serialize.lean ====
section
/-! SUPPORT. What issuing a command does, and what saving and restoring issue (20_memory.md R207). -/

namespace Sys2Proof.Machine

/-- Issuing a command whose encoding decodes to it, on an idle unit, executes it with ARG in ARGL. -/
theorem issue_of_decode {s : State} {i : Instr} (arg : Word) (idle : s.xs.pend = false)
    (h : decode (encode i) = some i) :
    issue arg i s
      = exec i { s with xs := { s.xs with arg := arg, cmdl := encode i, argl := arg, pend := true, overrun := false } } := by
  simp [issue, regWrite, writeCmd, idle, engineStep, h]

theorem issueAll_cons_of_next {a : Word} {i : Instr} {s t : State} (cs : List (Word × Instr))
    (h : issue a i s = .next t) : issueAll ((a, i) :: cs) s = issueAll cs t := by
  simp [issueAll, h]

theorem readAll_cons_of_next {i : Instr} {s t : State} (is : List Instr) (h : issue s.xs.arg i s = .next t) :
    readAll (i :: is) s = (readAll is t).map (fun r => (t.xs.res :: r.1, r.2)) := by
  simp [readAll, h]

@[simp] theorem Variant.code_setWidth_toNat (v : Variant) : (v.code.setWidth 64).toNat = v.code.toNat := by
  cases v <;> rfl

/-- What restoring a unit's serialised form issues, said of the unit. -/
theorem restoreCommands_serialized (x : Xscore) (anySeed : Word) :
    restoreCommands x.serialized anySeed
      = (anySeed, .seed x.var.code.toNat)
        :: ((List.range x.var.len).map (fun i => (StateArray.word x.words i, Instr.wrstate i))
            ++ if x.var.hasCursor then [(x.cursor.setWidth 64, .wrcur)] else []) := by
  have take : (StateArray.firstWords x.words x.var.len
      ++ if x.var.hasCursor then [x.cursor.setWidth 64] else []).take x.var.len
      = StateArray.firstWords x.words x.var.len := by simp
  have drop : (StateArray.firstWords x.words x.var.len
      ++ if x.var.hasCursor then [x.cursor.setWidth 64] else []).drop x.var.len
      = if x.var.hasCursor then [x.cursor.setWidth 64] else [] := by simp
  have words : (StateArray.firstWords x.words x.var.len).mapIdx (fun i w => (w, Instr.wrstate i))
      = (List.range x.var.len).map (fun i => (StateArray.word x.words i, Instr.wrstate i)) := by
    apply List.ext_getElem <;> simp [StateArray.firstWords]
  simp only [Xscore.serialized, restoreCommands, Variant.code_setWidth_toNat, variantOperand_code, take, drop, words]
  cases x.var.hasCursor <;> simp

end Sys2Proof.Machine
end

