-- ==== Sys2Proof/Machine/Assembler.lean ====
section
/-! DEFINITION. The assembler of command lines (30_encoding.md R306): the mnemonic, then at most one operand; numbers are
decimal, or hexadecimal with 0x; an operand outside its field's range is refused. A line is a list of characters. -/

namespace Sys2Proof.Machine

/-- The value of a digit in a base of up to 16; letters of either case. -/
def digitValue (base : Nat) (c : Char) : Option Nat :=
  let n := c.toNat
  let d :=
    if 48 ≤ n ∧ n ≤ 57 then n - 48
    else if 65 ≤ n ∧ n ≤ 70 then n - 55
    else if 97 ≤ n ∧ n ≤ 102 then n - 87
    else 16
  if d < base then some d else none

/-- The number digits spell, after the value read so far. -/
def digitsValue (base : Nat) (acc : Nat) : List Char → Option Nat
  | [] => some acc
  | c :: cs =>
    match digitValue base c with
    | some d => digitsValue base (acc * base + d) cs
    | none => none

/-- A number: decimal, or hexadecimal with 0x (R306). -/
def parseNumber : List Char → Option Nat
  | [] => none
  | '0' :: 'x' :: c :: cs => digitsValue 16 0 (c :: cs)
  | c :: cs => digitsValue 10 0 (c :: cs)

/-- `#n`. -/
def parseImmediate : List Char → Option Nat
  | '#' :: cs => parseNumber cs
  | _ => none

/-- The variant names of 00_scope.md R3, in the order of their numbers. -/
def variantNames : List (List Char) :=
  [ "SPLITMIX64".toList, "XORSHIFT64STAR_A".toList, "XORSHIFT64STAR_B".toList, "XORSHIFT128PLUS_A".toList,
    "XORSHIFT128PLUS_B".toList, "XOROSHIRO128PLUS".toList, "XOROSHIRO128STARSTAR".toList, "XOROSHIRO256PLUS".toList,
    "XOROSHIRO256PLUSPLUS".toList, "XOROSHIRO256STARSTAR".toList, "XOROSHIRO512STARSTAR".toList,
    "XORSHIFT1024STAR".toList, "XORSHIFT1024STARPHI".toList, "XORSHIFT4096STAR".toList ]

/-- SEED's operand: a variant's name, or `#v` (R306). -/
def parseVariant (cs : List Char) : Option Nat :=
  match variantNames.findIdx? (fun n => n == cs) with
  | some v => some v
  | none => parseImmediate cs

/-- The words of a line: what stands between spaces. `w` is the word being read, reversed. -/
def splitWords (w : List Char) : List Char → List (List Char)
  | [] => if w.isEmpty then [] else [w.reverse]
  | ' ' :: cs => if w.isEmpty then splitWords [] cs else w.reverse :: splitWords [] cs
  | c :: cs => splitWords (c :: w) cs

/-- The commands that take no operand, by mnemonic (R306). -/
def plainCommands : List (List Char × Instr) :=
  [ ("NOP".toList, .nop), ("NEXT".toList, .next), ("NEXTI63".toList, .nexti63), ("JUMP".toList, .jump),
    ("RDCUR".toList, .rdcur), ("WRCUR".toList, .wrcur), ("CLRSTAT".toList, .clrstat) ]

/-- A command line, before its operand's range is checked. -/
def parseWords : List (List Char) → Option Instr
  | [m] => (plainCommands.find? (fun p => p.1 == m)).map Prod.snd
  | [m, o] =>
    if m == "SEED".toList then (parseVariant o).map Instr.seed
    else if m == "ROTL".toList then (parseImmediate o).map Instr.rotl
    else if m == "RDSTATE".toList then (parseImmediate o).map Instr.rdstate
    else if m == "WRSTATE".toList then (parseImmediate o).map Instr.wrstate
    else none
  | _ => none

/-- The command a line spells; an operand outside its field's range is refused (R306). -/
def assembleLine (line : List Char) : Option Instr :=
  match parseWords (splitWords [] line) with
  | some i => if i.wellFormed then some i else none
  | none => none

/-- The CMD value a line assembles to (R306). -/
def assemble (line : List Char) : Option Word := (assembleLine line).map encode

end Sys2Proof.Machine
end

