-- ==== Sys2Proof/Tests/Slice0.lean ====
section
/-! SUPPORT. Tests. Every expected value is the spec's own (the rule or row of 95_test_vectors.md is named), never the
model's answer. Then, for each statement with hypotheses, a witness that they can be met together. -/

namespace Sys2Proof.Tests

open Sys2Proof.Machine

/-- A unit at base 0x1000, seeded with variant v, its first words `ws`. -/
def seededUnit (v : Variant) (ws : List Word) : Xscore :=
  { Xscore.reset 0x1000 with words := StateArray.setWords StateArray.zero 0 ws, var := v, seeded := true }

/-- A machine with that one unit. -/
def only (x : Xscore) : State := { left := [], xs := x, right := [], hosts := [], sched := [], rdata := 0 }

/-- A machine with two units, the second one `x`, and these moves to come. -/
def two (x : Xscore) (ms : List Move) : State :=
  { left := [], xs := Xscore.reset 0x40, right := [x], hosts := [], sched := ms, rdata := 0 }

/-- The next state, if there is one. -/
def nextOf : Result → Option State
  | .next s => some s
  | .fault _ => none
  | .refused _ => none

/-- RES after a command on a unit. -/
def resAfter (i : Instr) (x : Xscore) : Option Word := (nextOf (exec i (only x))).map fun t => t.xs.res

/-- S[0..n-1] after a command on a unit. -/
def wordsAfter (n : Nat) (i : Instr) (x : Xscore) : Option (List Word) :=
  (nextOf (exec i (only x))).map fun t => StateArray.firstWords t.xs.words n

/-- STATUS after a command on a unit. -/
def statusAfter (i : Instr) (x : Xscore) : Option Word := (nextOf (exec i (only x))).map fun t => statusWord t.xs

/-! ## Ill-formed commands, one for each check of `wellFormed` (R306) -/

theorem test_seed_operand_too_large : (Instr.seed 16).wellFormed = false := by decide
theorem test_rotl_operand_too_large : (Instr.rotl 64).wellFormed = false := by decide
theorem test_rdstate_operand_too_large : (Instr.rdstate 64).wellFormed = false := by decide
theorem test_wrstate_operand_too_large : (Instr.wrstate 64).wellFormed = false := by decide
theorem test_largest_operands_fit :
    (Instr.seed 15).wellFormed = true ∧ (Instr.rotl 63).wellFormed = true ∧ (Instr.rdstate 63).wellFormed = true
      ∧ (Instr.wrstate 63).wellFormed = true := by decide

/-! ## Decoding: each word written out field by field, RSVD | IDX | VAR | OP (R300, R301) -/

theorem test_decode_nop : decode (0b000000000000000000#18 ++ 0b000000#6 ++ 0b0000#4 ++ 0b0000#4 |>.setWidth 64)
    = some .nop := by decide
theorem test_decode_seed : decode (0b000000000000000000#18 ++ 0b000000#6 ++ 0b1001#4 ++ 0b0001#4 |>.setWidth 64)
    = some (.seed 9) := by decide
theorem test_decode_next : decode (0b000000000000000000#18 ++ 0b000000#6 ++ 0b0000#4 ++ 0b0010#4 |>.setWidth 64)
    = some .next := by decide
theorem test_decode_nexti63 : decode (0b000000000000000000#18 ++ 0b000000#6 ++ 0b0000#4 ++ 0b0011#4 |>.setWidth 64)
    = some .nexti63 := by decide
theorem test_decode_jump : decode (0b000000000000000000#18 ++ 0b000000#6 ++ 0b0000#4 ++ 0b0100#4 |>.setWidth 64)
    = some .jump := by decide
theorem test_decode_rotl : decode (0b000000000000000000#18 ++ 0b100001#6 ++ 0b0000#4 ++ 0b0101#4 |>.setWidth 64)
    = some (.rotl 33) := by decide
theorem test_decode_rdstate : decode (0b000000000000000000#18 ++ 0b001111#6 ++ 0b0000#4 ++ 0b0110#4 |>.setWidth 64)
    = some (.rdstate 15) := by decide
theorem test_decode_wrstate : decode (0b000000000000000000#18 ++ 0b111110#6 ++ 0b0000#4 ++ 0b0111#4 |>.setWidth 64)
    = some (.wrstate 62) := by decide
theorem test_decode_rdcur : decode (0b000000000000000000#18 ++ 0b000000#6 ++ 0b0000#4 ++ 0b1000#4 |>.setWidth 64)
    = some .rdcur := by decide
theorem test_decode_wrcur : decode (0b000000000000000000#18 ++ 0b000000#6 ++ 0b0000#4 ++ 0b1001#4 |>.setWidth 64)
    = some .wrcur := by decide
theorem test_decode_clrstat : decode (0b000000000000000000#18 ++ 0b000000#6 ++ 0b0000#4 ++ 0b1010#4 |>.setWidth 64)
    = some .clrstat := by decide
/-- 95_test_vectors.md §3, E9 to E16: illegal words. -/
theorem test_decode_illegal :
    decode 0x1F1 = none ∧ decode 0xB = none ∧ decode 0xF = none ∧ decode 0x100000000 = none ∧ decode 0x4000 = none
      ∧ decode 0x100 = none ∧ decode 0x12 = none ∧ decode 0x4305 = none := by decide
/-- R306's examples of encodings, assembled. -/
theorem test_assemble_examples :
    assemble "SEED XOROSHIRO128PLUS".toList = some 0x51 ∧ assemble "ROTL #7".toList = some 0x705
      ∧ assemble "RDSTATE #0xF".toList = some 0xF06 ∧ assemble "NEXT".toList = some 0x2 := by decide
/-- R306: an operand outside its field's range is refused. -/
theorem test_assemble_refuses :
    assemble "ROTL #64".toList = none ∧ assemble "SEED #16".toList = none ∧ assemble "NEXT #0".toList = none := by decide

/-! ## One step of each instruction -/

/-- R501. -/
theorem test_nop : statusAfter .nop { Xscore.reset 0 with pend := true } = some 0 := by decide
/-- 95 §2.2: seed 1 on a 2-word variant; R502's example. -/
theorem test_seed_expands :
    wordsAfter 2 (.seed 5) { Xscore.reset 0 with argl := 1 } = some [0x910A2DEC89025CC1, 0xBEEB8DA1658EEC67] := by decide
/-- 95 §3, E33: a SEED of 14 after a good SEED keeps VAR and SEEDED, ECODE 2. -/
theorem test_seed_bad_variant : statusAfter (.seed 14) (seededUnit .xoroShiro128Plus [1, 2]) = some 0x526 := by decide
/-- R411: the examples. -/
theorem test_next_splitmix :
    resAfter .next (seededUnit .splitMix64 [0]) = some 0xE220A8397B1DCDAF
      ∧ wordsAfter 1 .next (seededUnit .splitMix64 [0xFFFFFFFFFFFFFFFF]) = some [0x9E3779B97F4A7C14] := by decide
/-- R420, R421: the examples. -/
theorem test_next_xorshift64 :
    resAfter .next (seededUnit .xorShift64StarA [1]) = some 0x2545F4914F6CDD1D
      ∧ resAfter .next (seededUnit .xorShift64StarB [1]) = some 0x47E4CE4B896CDD1D := by decide
/-- R431, R432: the examples. -/
theorem test_next_xorshift128 :
    wordsAfter 2 .next (seededUnit .xorShift128PlusA [1, 0]) = some [0, 0x0000000000800021]
      ∧ resAfter .next (seededUnit .xorShift128PlusB [1, 0]) = some 0x0000000000800041 := by decide
/-- R433, R434: the examples. -/
theorem test_next_xoroshiro128 :
    wordsAfter 2 .next (seededUnit .xoroShiro128Plus [1, 0]) = some [0x0080000000004001, 0x0000001000000000]
      ∧ resAfter .next (seededUnit .xoroShiro128StarStar [1, 0]) = some 0x0000000000001680 := by decide
/-- R441, R442, R443: the examples. -/
theorem test_next_xoshiro256 :
    wordsAfter 4 .next (seededUnit .xoroShiro256Plus [1, 2, 3, 4])
        = some [0x0000000000000007, 0x0000000000000000, 0x0000000000040002, 0x0000C00000000000]
      ∧ resAfter .next (seededUnit .xoroShiro256PlusPlus [1, 2, 3, 4]) = some 0x0000000002800001
      ∧ resAfter .next (seededUnit .xoroShiro256StarStar [1, 2, 3, 4]) = some 0x0000000000002D00 := by decide
/-- R444: the example. -/
theorem test_next_xoshiro512 :
    wordsAfter 8 .next (seededUnit .xoroShiro512StarStar [1, 2, 3, 4, 5, 6, 7, 8])
      = some [0x06, 0x00, 0x02, 0x01, 0x01, 0x04, 0x100B, 0x0000000001800000] := by decide +kernel
/-- R451, R452, R453: the examples. -/
theorem test_next_rotating :
    resAfter .next (seededUnit .xorShift1024Star [1, 2]) = some 0xC0562E31B467F91F
      ∧ resAfter .next (seededUnit .xorShift1024StarPhi [1, 2]) = some 0x9120D28F003F7439
      ∧ resAfter .next (seededUnit .xorShift4096Star [1, 2]) = some 0x9E48A8FBE2CDE00F := by decide
/-- R451's corner case: P = 15 goes to 0. -/
theorem test_next_wraps_cursor :
    (nextOf (exec .next (only { seededUnit .xorShift1024Star [1] with cursor := 15 }))).map (fun t => t.xs.cursor)
      = some 0 := by decide
/-- 95 §1.2: NEXTI63 clears bit 63 of 0x9B3DF27E919F6A0C. -/
theorem test_nexti63 :
    resAfter .nexti63 (seededUnit .xorShift128PlusA [0x910A2DEC89025CC1, 0xBEEB8DA1658EEC67])
      = some 0x1B3DF27E919F6A0C := by decide
/-- 95 §4.1: JUMP on VAR 5 from seed 1. -/
theorem test_jump :
    wordsAfter 2 .jump (seededUnit .xoroShiro128Plus [0x910A2DEC89025CC1, 0xBEEB8DA1658EEC67])
      = some [0x55E559DE9E2E162C, 0x8B084AFB07D6ED73] := by decide +kernel
/-- 95 §3, E21: NO_JUMP on VAR 13. -/
theorem test_jump_no_polynomial : statusAfter .jump (seededUnit .xorShift4096Star [1]) = some 0xD46 := by decide
/-- R401's example, and 95 §2.1's k = 63. -/
theorem test_rotl :
    resAfter (.rotl 7) { Xscore.reset 0 with argl := 0x0123456789ABCDEF } = some 0x91A2B3C4D5E6F780
      ∧ resAfter (.rotl 63) { Xscore.reset 0 with argl := 0x8000000000000001 } = some 0xC000000000000000 := by decide
/-- 95 §2.1: k = 0 is the identity. -/
theorem test_rotl_zero :
    resAfter (.rotl 0) { Xscore.reset 0 with argl := 0x8000000000000001 } = some 0x8000000000000001 := by decide
/-- R505's example. -/
theorem test_rdstate :
    resAfter (.rdstate 1) (seededUnit .xoroShiro128Plus [0x910A2DEC89025CC1, 0xBEEB8DA1658EEC67])
      = some 0xBEEB8DA1658EEC67 := by decide
/-- 95 §3, E22: index 2 of a 2-word state. -/
theorem test_rdstate_bad_index : statusAfter (.rdstate 2) (seededUnit .xoroShiro128Plus [1, 2]) = some 0x556 := by decide
/-- 95 §2.5: WRSTATE #1 with ARG = 0. -/
theorem test_wrstate : wordsAfter 2 (.wrstate 1) (seededUnit .xoroShiro128Plus [1, 7]) = some [1, 0] := by decide
/-- 95 §3, E23. -/
theorem test_wrstate_bad_index : statusAfter (.wrstate 63) (seededUnit .xoroShiro128Plus [1, 2]) = some 0x556 := by decide
/-- R207: the form is VAR, then the words; the words are 95 §2.2's, seed 1. -/
theorem test_save :
    (saveAll (only (seededUnit .xoroShiro128Plus [0x910A2DEC89025CC1, 0xBEEB8DA1658EEC67]))).map Prod.fst
      = some [5, 0x910A2DEC89025CC1, 0xBEEB8DA1658EEC67] := by decide
/-- R207: a SEED, a WRSTATE for each word, a WRCUR only with a cursor. -/
theorem test_restore_commands :
    restoreCommands [5, 7, 8] 1 = [(1, .seed 5), (7, .wrstate 0), (8, .wrstate 1)]
      ∧ (restoreCommands (11 :: List.replicate 16 3 ++ [15]) 1).getLast? = some (15, .wrcur) := by decide
/-- R507: RDCUR on a rotating-buffer variant. -/
theorem test_rdcur : resAfter .rdcur { seededUnit .xorShift1024Star [1] with cursor := 3 } = some 3 := by decide
/-- 95 §3, E24. -/
theorem test_rdcur_no_cursor : statusAfter .rdcur (seededUnit .xoroShiro128Plus [1, 2]) = some 0x566 := by decide
/-- 95 §3, E31: WRCUR 63 on VAR 13 is legal. -/
theorem test_wrcur :
    (nextOf (exec .wrcur (only { seededUnit .xorShift4096Star [1] with argl := 63 }))).map (fun t => t.xs.cursor)
      = some 63 := by decide
/-- 95 §3, E25 and E27: NO_CURSOR before BAD_INDEX; all 64 bits of ARGL are compared. -/
theorem test_wrcur_errors :
    statusAfter .wrcur { seededUnit .xoroShiro128Plus [1, 2] with argl := 99 } = some 0x566
      ∧ statusAfter .wrcur { seededUnit .xorShift1024Star [1] with argl := 0x0000000100000003 } = some 0xB56 := by decide
/-- 95 §2.6: STATUS 0x036 becomes 0x002. -/
theorem test_clrstat :
    statusAfter .clrstat { seededUnit .splitMix64 [5] with err := true, ecode := 3 } = some 0x002 := by decide

/-! ## The handshake and the step -/

/-- 95 §3, E3: JUMP as the first command after reset raises NOT_SEEDED. -/
theorem test_step_after_reset :
    (nextOf (step (State.reset.withFetchWord 32 0x4))).map (fun t => statusWord t.xs) = some 0x034 := by decide
/-- 95 §3, E12: an illegal word accepted and executed. -/
theorem test_step_illegal :
    (nextOf (step (only { Xscore.reset 0 with pend := true, cmdl := 0x100000000 }))).map (fun t => statusWord t.xs)
      = some 0x014 := by decide
/-- R710: a CMD write to the second unit is accepted: its STATUS reads BUSY. -/
theorem test_cmd_write_accepted :
    (nextOf (step (two (Xscore.reset 0x1000) [.access (.write 0x1000 64 0x2)]))).map
        (fun t => t.units.map statusWord) = some [0, 1] := by decide
/-- R712: a CMD write while busy sets OVR. -/
theorem test_cmd_write_dropped :
    (nextOf (step (two { Xscore.reset 0x1000 with pend := true } [.access (.write 0x1000 64 0x2)]))).map
        (fun t => t.units.map statusWord) = some [0, 0x9] := by decide
/-- R202: an address in no window, an offset that is no register's, and a narrow access are refused. -/
theorem test_access_refused :
    nextOf (step (two (Xscore.reset 0x1000) [.access (.read 0x1020 64)])) = none
      ∧ nextOf (step (two (Xscore.reset 0x1000) [.access (.read 0x1004 64)])) = none
      ∧ nextOf (step (two (Xscore.reset 0x1000) [.access (.write 0x1008 32 0)])) = none := by decide
/-- R700: a reset while busy aborts the command. -/
theorem test_reset_while_busy :
    (nextOf (step (two { seededUnit .splitMix64 [5] with pend := true } [.reset 1]))).map
        (fun t => t.units.map statusWord) = some [0, 0] := by decide
/-- R509's corner case: the OVR of a write dropped while CLRSTAT is pending stays. -/
theorem test_clrstat_keeps_late_overrun :
    statusAfter .clrstat (writeCmd { Xscore.reset 0 with pend := true, cmdl := 0xA } 0x2) = some 0x8 := by decide
/-- R307: reading an array index never written is a host fault. -/
theorem test_host_load_unwritten :
    (match step { only (Xscore.reset 0) with hosts := [HostAgent.load 0 [.hload 0 1 2]] } with
     | .fault r => some r
     | .next _ => none
     | .refused _ => none) = some .hostArrayUnwritten := by decide

/-! ## Witnesses: the hypotheses of each statement can be met together -/

theorem witness_DecodeOfEncodedCommand : (Instr.seed 15).wellFormed = true ∧ (Instr.rotl 63).wellFormed = true := by decide
theorem witness_EncodeOfDecodedCommand : decode 0x3F07 = some (.wrstate 63) := by decide
theorem witness_LegalCommandValues :
    (only { Xscore.reset 0 with pend := true, cmdl := 0xB }).xs.pend = true ∧ legal 0xB = false ∧ legal 0xA = true
      ∧ legal 0x3F05 = true ∧ legal 0x4005 = false ∧ legal 0xF1 = true ∧ legal 0x1F1 = false := by decide
theorem witness_StepRunsAcceptedCommand :
    (only { Xscore.reset 0 with pend := true, cmdl := 0x705 }).sched = []
      ∧ decode 0x705 = some (.rotl 7) ∧ decodeTableWord 32 0x705 = some (.rotl 7)
      ∧ (two { Xscore.reset 0x1000 with pend := true, cmdl := 0x705 } [.engine 1]).units[1]?
          = some { Xscore.reset 0x1000 with pend := true, cmdl := 0x705 } := by decide
theorem witness_ResetMoveResetsOneUnit :
    (two (seededUnit .splitMix64 [5]) [.reset 1]).sched = .reset 1 :: []
      ∧ (two (seededUnit .splitMix64 [5]) [.reset 1]).units[1]? = some (seededUnit .splitMix64 [5]) := by decide
theorem witness_StepKeepsInvariant :
    (two { seededUnit .xorShift4096Star [1] with cursor := 63, pend := true, cmdl := 2 } [.engine 1]).Inv
      ∧ (nextOf (step (two { seededUnit .xorShift4096Star [1] with cursor := 63, pend := true, cmdl := 2 }
          [.engine 1]))).isSome = true := by decide
theorem witness_WritersOfEachRegister :
    (nextOf (exec .jump (only (seededUnit .splitMix64 [1])))).isSome = true
      ∧ writesRes .jump = false ∧ isSeed .jump = false ∧ writesCursor .jump = false ∧ writesWords .rdcur = false
      ∧ (seededUnit .splitMix64 [1]).cursor.toNat < (seededUnit .splitMix64 [1]).var.len := by decide
theorem witness_ErrorPriorityAndProcedure :
    commandError (.seed 14) (Xscore.reset 0) = some .badVariant ∧ commandError .jump (Xscore.reset 0) = some .notSeeded
      ∧ commandError .jump (seededUnit .xorShift4096Star [1]) = some .noJump
      ∧ commandError .wrcur { seededUnit .xoroShiro128Plus [1, 2] with argl := 99 } = some .noCursor
      ∧ commandError .wrcur { seededUnit .xorShift1024Star [1] with argl := 16 } = some .badIndex
      ∧ commandError .wrcur { seededUnit .xorShift1024Star [1] with argl := 15 } = none
      ∧ commandError (.seed 13) (Xscore.reset 0) = none := by decide
theorem witness_SeededGuard :
    checksSeeded (.rdstate 63) = true ∧ (Xscore.reset 0).seeded = false ∧ checksSeeded (.seed 3) = false := by decide
theorem witness_ClrstatClearsStickyStatus :
    (Xscore.reset 0).pend = false ∧ ({ Xscore.reset 0 with pend := true } : Xscore).pend = true := by decide
theorem witness_RotlRotatesOperand : (63 : Nat) < 64 ∧ (0 : Nat) < 64 := by decide
theorem witness_SeedExpandsOperand :
    (0 : Nat) < 14 ∧ (13 : Nat) < 14 ∧ (14 : Nat) ≤ 14 ∧ (15 : Nat) < 16
      ∧ (Variant.ofNumber 13).map Variant.len = some 64 := by decide
theorem witness_NextSplitMix64 :
    (only (seededUnit .splitMix64 [0])).xs.seeded = true ∧ (only (seededUnit .splitMix64 [0])).xs.var = .splitMix64 := by
  decide
theorem witness_NextXorShift64Star :
    (seededUnit .xorShift64StarA [1]).seeded = true ∧ (seededUnit .xorShift64StarA [1]).var = .xorShift64StarA
      ∧ (seededUnit .xorShift64StarB [1]).var = .xorShift64StarB := by decide
theorem witness_NextXorShift128Plus :
    (seededUnit .xorShift128PlusA [1]).seeded = true
      ∧ ((seededUnit .xorShift128PlusA [1]).var = .xorShift128PlusA ∧ 18 = 18 ∧ 5 = 5)
      ∧ ((seededUnit .xorShift128PlusB [1]).var = .xorShift128PlusB ∧ 17 = 17 ∧ 26 = 26) := by decide
theorem witness_NextXoroShiro128Plus :
    (seededUnit .xoroShiro128Plus [1]).seeded = true ∧ (seededUnit .xoroShiro128Plus [1]).var = .xoroShiro128Plus := by
  decide
theorem witness_NextXoroShiro128StarStar :
    (seededUnit .xoroShiro128StarStar [1]).seeded = true
      ∧ (seededUnit .xoroShiro128StarStar [1]).var = .xoroShiro128StarStar := by decide
theorem witness_NextXoroShiro256 :
    (seededUnit .xoroShiro256Plus [1, 2, 3, 4]).seeded = true
      ∧ ((seededUnit .xoroShiro256Plus [1, 2, 3, 4]).var = .xoroShiro256Plus ∧ (5 : Word) = 1 + 4)
      ∧ ((seededUnit .xoroShiro256PlusPlus [1, 2, 3, 4]).var = .xoroShiro256PlusPlus
          ∧ (0x2800001 : Word) = (1 + 4 : Word).rotateLeft 23 + 1)
      ∧ ((seededUnit .xoroShiro256StarStar [1, 2, 3, 4]).var = .xoroShiro256StarStar
          ∧ (0x2D00 : Word) = (2 * 5 : Word).rotateLeft 7 * 9) := by decide
theorem witness_NextXoroShiro512StarStar :
    (seededUnit .xoroShiro512StarStar [1]).seeded = true
      ∧ (seededUnit .xoroShiro512StarStar [1]).var = .xoroShiro512StarStar := by decide
theorem witness_NextRotatingBuffer :
    (seededUnit .xorShift4096Star [1]).seeded = true
      ∧ (seededUnit .xorShift4096Star [1]).var = .xorShift4096Star ∧ (63#6).toNat < 64
      ∧ (seededUnit .xorShift1024Star [1]).var = .xorShift1024Star
      ∧ (seededUnit .xorShift1024StarPhi [1]).var = .xorShift1024StarPhi ∧ (15#6).toNat < 16 := by decide
theorem witness_Nexti63MasksNext : (only (seededUnit .splitMix64 [0])).xs.seeded = true := by decide
theorem witness_RdstateReadsWord :
    (seededUnit .xorShift4096Star [1]).seeded = true ∧ 63 < (seededUnit .xorShift4096Star [1]).var.len
      ∧ (seededUnit .xorShift1024Star [1]).var.len ≤ 16 := by decide
theorem witness_WrstateWritesWord :
    (seededUnit .xorShift4096Star [1]).seeded = true ∧ 63 < (seededUnit .xorShift4096Star [1]).var.len
      ∧ (seededUnit .splitMix64 [1]).var.len ≤ 1 := by decide
theorem witness_RdcurReadsCursor :
    (seededUnit .xorShift1024Star [1]).seeded = true ∧ 11 ≤ (seededUnit .xorShift1024Star [1]).var.code.toNat
      ∧ (seededUnit .xoroShiro512StarStar [1]).var.code.toNat < 11 := by decide
theorem witness_WrcurWritesCursor :
    (seededUnit .xorShift1024Star [1]).seeded = true ∧ 11 ≤ (seededUnit .xorShift1024Star [1]).var.code.toNat
      ∧ (15#64).toNat < (seededUnit .xorShift1024Star [1]).var.len
      ∧ (seededUnit .xorShift1024Star [1]).var.len ≤ (16#64).toNat
      ∧ (seededUnit .xoroShiro512StarStar [1]).var.code.toNat < 11 := by decide
theorem witness_JumpAppliesPolynomial :
    (seededUnit .xorShift1024StarPhi [1]).seeded = true ∧ 3 ≤ (seededUnit .xorShift128PlusA [1]).var.code.toNat
      ∧ (seededUnit .xorShift1024StarPhi [1]).var.code.toNat ≤ 12
      ∧ (15#6).toNat < (seededUnit .xorShift1024StarPhi [1]).var.len
      ∧ (seededUnit .xorShift64StarB [1]).var.code.toNat < 3
      ∧ (seededUnit .xorShift4096Star [1]).var.code.toNat = 13 := by decide
theorem witness_JumpCommutesWithNext :
    (seededUnit .xorShift1024Star [1]).seeded = true ∧ 3 ≤ (seededUnit .xorShift1024Star [1]).var.code.toNat
      ∧ (seededUnit .xorShift1024Star [1]).var.code.toNat ≤ 12
      ∧ ({ seededUnit .xorShift1024Star [1] with cursor := 15 } : Xscore).cursor.toNat
          < (seededUnit .xorShift1024Star [1]).var.len := by decide
theorem witness_JumpSkipsTwoTo64Steps :
    (seededUnit .xoroShiro128StarStar [1]).seeded = true ∧ (seededUnit .xoroShiro128StarStar [1]).cursor = 0
      ∧ 3 ≤ (seededUnit .xorShift128PlusA [1]).var.code.toNat
      ∧ (seededUnit .xoroShiro128StarStar [1]).var.code.toNat ≤ 6 := by decide
theorem witness_RotationLaws : (63 : Nat) < 64 ∧ (0 : Nat) < 64 := by decide
theorem witness_SeedIsAllZeroForOneSeedOnly : (1 : Nat) < 14 ∧ (3 : Nat) ≤ 13 ∧ (13 : Nat) < 14 := by decide
theorem witness_AllZeroStateIsFixed :
    (seededUnit .xorShift1024Star []).seeded = true ∧ (seededUnit .xorShift1024Star []).var ≠ .splitMix64
      ∧ (seededUnit .xorShift1024Star []).cursor.toNat < (seededUnit .xorShift1024Star []).var.len
      ∧ ∀ i < (seededUnit .xorShift1024Star []).var.len,
          StateArray.word (seededUnit .xorShift1024Star []).words i = 0 := by decide
theorem witness_Perm64IsBijective : StateArray.word (seededUnit .xorShift64StarA [1]).words 0 ≠ 0 := by decide
theorem witness_StateStepIsInjective :
    (15#6).toNat < Variant.len .xorShift1024Star
      ∧ ∀ i < Variant.len .splitMix64, StateArray.word (stepVar .splitMix64 (seededUnit .splitMix64 [5, 6]).words 0).words i
          = StateArray.word (stepVar .splitMix64 (seededUnit .splitMix64 [5, 7]).words 0).words i := by decide
theorem witness_FutureDependsOnStateOnly :
    (15#6).toNat < Variant.len .xorShift1024Star
      ∧ ∀ i < Variant.len .splitMix64, StateArray.word (seededUnit .splitMix64 [5, 6]).words i
          = StateArray.word (seededUnit .splitMix64 [5, 7]).words i := by decide
theorem witness_CmdWriteWhileIdleIsAccepted :
    (two (Xscore.reset 0x1000) [.access (.write 0x1000 64 2)]).atWindow 1 (Xscore.reset 0x1000) 0x1000
      ∧ (Xscore.reset 0x1000).pend = false := by decide
theorem witness_CmdWriteWhileBusyIsDropped :
    (two { Xscore.reset 0x1000 with pend := true } [.access (.write 0x1000 64 2)]).atWindow 1
        { Xscore.reset 0x1000 with pend := true } 0x1000 := by decide
theorem witness_ArgWriteSetsArgOnly :
    (two (Xscore.reset 0x1000) [.access (.write 0x1008 64 7)]).atWindow 1 (Xscore.reset 0x1000) (0x1000 + 0x08) := by
  decide
theorem witness_ResAndStatusWritesAreIgnored :
    (two (Xscore.reset 0x1000) [.access (.write 0x1018 64 7)]).atWindow 1 (Xscore.reset 0x1000) (0x1000 + 0x18)
      ∧ (two (Xscore.reset 0x1000) [.access (.write 0x1010 64 7)]).atWindow 1 (Xscore.reset 0x1000) (0x1000 + 0x10) := by
  decide
theorem witness_ReadsReturnRegistersWithoutEffect :
    (two (Xscore.reset 0x1000) [.access (.read 0x1000 64)]).atWindow 1 (Xscore.reset 0x1000) (0x1000 + 0x00)
      ∧ (two (Xscore.reset 0x1000) [.access (.read 0x1008 64)]).atWindow 1 (Xscore.reset 0x1000) (0x1000 + 0x08)
      ∧ (two (Xscore.reset 0x1000) [.access (.read 0x1010 64)]).atWindow 1 (Xscore.reset 0x1000) (0x1000 + 0x10)
      ∧ (two (Xscore.reset 0x1000) [.access (.read 0x1018 64)]).atWindow 1 (Xscore.reset 0x1000) (0x1000 + 0x18) := by
  decide
theorem witness_OtherAccessesAreRefused :
    (32 : Nat) ≠ 64
      ∧ ∀ x ∈ (two (Xscore.reset 0x1000) [.access (.read 0x1020 64)]).units, ∀ off ∈ [0x00, 0x08, 0x10, 0x18],
          0x1020 ≠ x.base + off := by decide
theorem witness_UnitsAreIndependent :
    (nextOf (step (two { Xscore.reset 0x1000 with pend := true } [.engine 1]))).isSome = true := by decide
theorem witness_RestoreReproducesSavedState :
    (only (seededUnit .xorShift4096Star [1])).xs.pend = false ∧ (only (seededUnit .xorShift4096Star [1])).xs.seeded = true
      ∧ (only (Xscore.reset 0)).xs.pend = false
      ∧ ({ seededUnit .xorShift4096Star [1] with cursor := 63 } : Xscore).cursor.toNat
          < (seededUnit .xorShift4096Star [1]).var.len
      ∧ ((seededUnit .xoroShiro128Plus [1]).var.hasCursor = false ∧ (seededUnit .xoroShiro128Plus [1]).cursor = 0) := by
  decide
theorem witness_PendingCommandsComplete :
    (two { Xscore.reset 0x1000 with pend := true } []).sched = []
      ∧ 0 < (two { Xscore.reset 0x1000 with pend := true } []).pendingCount := by decide
theorem witness_IdleMachineHoldsItsState :
    (only (Xscore.reset 0)).sched = [] ∧ (only (Xscore.reset 0)).runEnded = true := by decide
theorem witness_HostCommandIsIssued :
    let s : State := { two (Xscore.reset 0x1000) [.host 0] with hosts := [HostAgent.load 0x1000 [.wcmd .next]] }
    s.sched = .host 0 :: [] ∧ s.hosts[0]? = some (HostAgent.load 0x1000 [.wcmd .next])
      ∧ (HostAgent.load 0x1000 [.wcmd .next]).prog[(HostAgent.load 0x1000 [.wcmd .next]).pc]? = some (.wcmd .next)
      ∧ (Xscore.reset 0x1000).base = (HostAgent.load 0x1000 [.wcmd .next]).base
      ∧ s.atWindow 1 (Xscore.reset 0x1000) (Xscore.reset 0x1000).base ∧ (Xscore.reset 0x1000).pend = false := by decide
theorem witness_HostReadsAndFaults :
    let s : State := { two (Xscore.reset 0x1000) [.host 0] with hosts := [HostAgent.load 0x1000 [.rstat 7, .hload 0 1 2]] }
    s.sched = .host 0 :: [] ∧ s.hosts[0]? = some (HostAgent.load 0x1000 [.rstat 7, .hload 0 1 2])
      ∧ (HostAgent.load 0x1000 [.rstat 7, .hload 0 1 2]).prog[0]? = some (.rstat 7)
      ∧ s.atWindow 1 (Xscore.reset 0x1000) ((Xscore.reset 0x1000).base + 0x18)
      ∧ (HostAgent.load 0x1000 [.hload 0 1 2]).prog[0]? = some (.hload 0 1 2)
      ∧ ∀ c ∈ (HostAgent.load 0x1000 [.hload 0 1 2]).arrays, ¬(c.name = 1 ∧ c.index = 0) := by decide

end Sys2Proof.Tests
end

section
/-! PROOF. 00_scope.md R12: the generator's future depends on S[0..N-1] and P alone. Each step function reads only words
below N, so one step keeps the agreement of two state arrays below N and answers the same output; the rest is induction on
the number of steps. -/

namespace Sys2Proof.Machine

/-- The two state arrays agree in the words S[0..n-1]. -/
def AgreeBelow (n : Nat) (S S' : StateArray) : Prop := ∀ i < n, StateArray.word S i = StateArray.word S' i

theorem AgreeBelow.setWord {n : Nat} {S S' : StateArray} (h : AgreeBelow n S S') {k : Nat} (hk : k < 64) {w w' : Word}
    (hw : w = w') : AgreeBelow n (StateArray.setWord S k w) (StateArray.setWord S' k w') := by
  intro i hi
  rw [StateArray.word_setWord S k i w hk, StateArray.word_setWord S' k i w' hk, hw, h i hi]

theorem AgreeBelow.setWords {n : Nat} {S S' : StateArray} (h : AgreeBelow n S S') {k : Nat} {ws : List Word}
    (hk : k + ws.length ≤ 64) : AgreeBelow n (StateArray.setWords S k ws) (StateArray.setWords S' k ws) := by
  intro i hi
  rw [StateArray.word_setWords ws S k i hk, StateArray.word_setWords ws S' k i hk, h i hi]

/-- The two results have the same output and agree in the words S[0..n-1]. -/
def SteppedAgree (n : Nat) (r r' : Stepped) : Prop := r.out = r'.out ∧ AgreeBelow n r.words r'.words

variable {S S' : StateArray}

theorem stepSplitMix64_agree (h : AgreeBelow 1 S S') (P : Cursor) :
    SteppedAgree 1 (stepSplitMix64 S P) (stepSplitMix64 S' P) := by
  have h0 := h 0 (by decide)
  exact ⟨by simp only [stepSplitMix64, h0], h.setWord (by decide) (by rw [h0])⟩

theorem stepXorShift64StarA_agree (h : AgreeBelow 1 S S') (P : Cursor) :
    SteppedAgree 1 (stepXorShift64StarA S P) (stepXorShift64StarA S' P) := by
  have h0 := h 0 (by decide)
  exact ⟨by simp only [stepXorShift64StarA, h0], h.setWord (by decide) (by rw [h0])⟩

theorem stepXorShift64StarB_agree (h : AgreeBelow 1 S S') (P : Cursor) :
    SteppedAgree 1 (stepXorShift64StarB S P) (stepXorShift64StarB S' P) := by
  have h0 := h 0 (by decide)
  exact ⟨by simp only [stepXorShift64StarB, h0], h.setWord (by decide) (by rw [h0])⟩

theorem xorShift128Plus_agree (shiftA shiftB : Nat) (h : AgreeBelow 2 S S') (P : Cursor) :
    SteppedAgree 2 (xorShift128Plus shiftA shiftB S P) (xorShift128Plus shiftA shiftB S' P) := by
  have h0 := h 0 (by decide)
  have h1 := h 1 (by decide)
  exact ⟨by simp only [xorShift128Plus, h0, h1],
    (h.setWord (by decide) h1).setWord (by decide) (by rw [h0, h1])⟩

theorem xoroShiro128Update_agree (a b c : Nat) (h : AgreeBelow 2 S S') :
    AgreeBelow 2 (xoroShiro128Update a b c S) (xoroShiro128Update a b c S') := by
  have h0 := h 0 (by decide)
  have h1 := h 1 (by decide)
  exact (h.setWord (by decide) (by rw [h0, h1])).setWord (by decide) (by rw [h0, h1])

theorem upd256_agree (h : AgreeBelow 4 S S') : AgreeBelow 4 (upd256 S) (upd256 S') := by
  have h0 := h 0 (by decide)
  have h1 := h 1 (by decide)
  have h2 := h 2 (by decide)
  have h3 := h 3 (by decide)
  simp only [upd256, h0, h1, h2, h3]
  exact h.setWords (by simp)

theorem upd512_agree (h : AgreeBelow 8 S S') : AgreeBelow 8 (upd512 S) (upd512 S') := by
  have h0 := h 0 (by decide)
  have h1 := h 1 (by decide)
  have h2 := h 2 (by decide)
  have h3 := h 3 (by decide)
  have h4 := h 4 (by decide)
  have h5 := h 5 (by decide)
  have h6 := h 6 (by decide)
  have h7 := h 7 (by decide)
  simp only [upd512, h0, h1, h2, h3, h4, h5, h6, h7]
  exact h.setWords (by simp)

/-- R450 reads the words at P and at the next cursor, both below n. -/
theorem stepRotating_agree {n : Nat} (k : RotatingConstants) (h : AgreeBelow n S S') {P : Cursor} (hP : P.toNat < n)
    (hnext : (nextCursor n P).toNat < n) : SteppedAgree n (stepRotating n k S P) (stepRotating n k S' P) := by
  have h0 := h P.toNat hP
  have h1 := h (nextCursor n P).toNat hnext
  exact ⟨by simp only [stepRotating, h0, h1], h.setWord (nextCursor n P).isLt (by rw [h0, h1])⟩

theorem stepVar_agree (v : Variant) {P : Cursor} (hP : P.toNat < v.len) (h : AgreeBelow v.len S S') :
    SteppedAgree v.len (stepVar v S P) (stepVar v S' P) := by
  have hnext := nextCursor_lt v P
  cases v with
  | splitMix64 => exact stepSplitMix64_agree h P
  | xorShift64StarA => exact stepXorShift64StarA_agree h P
  | xorShift64StarB => exact stepXorShift64StarB_agree h P
  | xorShift128PlusA => exact xorShift128Plus_agree 18 5 h P
  | xorShift128PlusB => exact xorShift128Plus_agree 17 26 h P
  | xoroShiro128Plus =>
    exact ⟨congrArg₂ (· + ·) (h 0 (by decide)) (h 1 (by decide)), xoroShiro128Update_agree 55 14 36 h⟩
  | xoroShiro128StarStar => exact ⟨congrArg starStar (h 0 (by decide)), xoroShiro128Update_agree 24 16 37 h⟩
  | xoroShiro256Plus => exact ⟨congrArg₂ (· + ·) (h 0 (by decide)) (h 3 (by decide)), upd256_agree h⟩
  | xoroShiro256PlusPlus =>
    have hout : (stepXoroShiro256PlusPlus S P).out = (stepXoroShiro256PlusPlus S' P).out := by
      simp only [stepXoroShiro256PlusPlus, h 0 (by decide), h 3 (by decide)]
    exact ⟨hout, upd256_agree h⟩
  | xoroShiro256StarStar => exact ⟨congrArg starStar (h 1 (by decide)), upd256_agree h⟩
  | xoroShiro512StarStar => exact ⟨congrArg starStar (h 1 (by decide)), upd512_agree h⟩
  | xorShift1024Star => exact stepRotating_agree Rom.xorShift1024Star h hP hnext
  | xorShift1024StarPhi => exact stepRotating_agree Rom.xorShift1024StarPhi h hP hnext
  | xorShift4096Star => exact stepRotating_agree Rom.xorShift4096Star h hP hnext

theorem stepVar_cursor_lt (v : Variant) (S : StateArray) {P : Cursor} (hP : P.toNat < v.len) :
    (stepVar v S P).cursor.toNat < v.len := by
  rw [stepVar_cursor]
  split
  · exact nextCursor_lt v P
  · exact hP

theorem stepsFrom_cursor_lt (v : Variant) (S : StateArray) {P : Cursor} (hP : P.toNat < v.len) (k : Nat) :
    (stepsFrom v S P k).2.toNat < v.len := by
  induction k with
  | zero => exact hP
  | succ k ih => exact stepVar_cursor_lt v _ ih

/-- Where P stands after k steps does not depend on the words at all. -/
theorem stepsFrom_cursor_eq (v : Variant) (S S' : StateArray) (P : Cursor) (k : Nat) :
    (stepsFrom v S P k).2 = (stepsFrom v S' P k).2 := by
  induction k with
  | zero => rfl
  | succ k ih => simp only [stepsFrom, stepVar_cursor, ih]

theorem stepsFrom_agree (v : Variant) {P : Cursor} (hP : P.toNat < v.len) (h : AgreeBelow v.len S S') (k : Nat) :
    AgreeBelow v.len (stepsFrom v S P k).1 (stepsFrom v S' P k).1 := by
  induction k with
  | zero => exact h
  | succ k ih =>
    simp only [stepsFrom, stepsFrom_cursor_eq v S S' P k]
    exact (stepVar_agree v (stepsFrom_cursor_lt v S' hP k) ih).2

theorem outputAfter_agree (v : Variant) {P : Cursor} (hP : P.toNat < v.len) (h : AgreeBelow v.len S S') (k : Nat) :
    outputAfter v S P k = outputAfter v S' P k := by
  simp only [outputAfter, stepsFrom_cursor_eq v S S' P k]
  exact (stepVar_agree v (stepsFrom_cursor_lt v S' hP k) (stepsFrom_agree v hP h k)).1

end Sys2Proof.Machine
end

section
/-! PROOF. The statements of 00_scope.md. -/

namespace Sys2Proof.Proofs

open Sys2Proof.Machine

/-- Settles O57: R12, by `stepVar_agree` (one step reads no word at or above N) and induction on the number of steps. -/
theorem futureDependsOnStateOnly : Obligations.FutureDependsOnStateOnly := by
  intro v S S' P hP h k
  exact ⟨outputAfter_agree v hP h k, stepsFrom_cursor_eq v S S' P k, stepsFrom_agree v hP h k⟩

/-- Settles O10: R3 and R460, row by row: the table is closed and evaluates to the listed values. -/
theorem variantTable : Obligations.VariantTable :=
  ⟨by decide, rfl, rfl⟩

end Sys2Proof.Proofs
end

section
/-! PROOF. What a command does to its unit, said once: `CommandEffect` lists the ways, `exec_effect` says that `exec`
answers one of them (47_commands.md R500, 60_exceptions.md R603). And JUMP's cursor: its 64 N steps leave P where it
was (46_jump.md R465). -/

namespace Sys2Proof.Machine

/-! ## The cursor of the jump -/

@[simp] theorem length_polynomialBits (q : List Word) : (polynomialBits q).length = 64 * q.length := by
  simp [polynomialBits, Nat.mul_comm]

@[simp] theorem jumpBit_words (v : Variant) (b : Bool) (J : JumpScan) :
    (jumpBit v b J).words = (stepVar v J.words J.cursor).words := rfl
@[simp] theorem jumpBit_cursor (v : Variant) (b : Bool) (J : JumpScan) :
    (jumpBit v b J).cursor = (stepVar v J.words J.cursor).cursor := rfl

/-- The scan steps the generator once for each bit, whatever the accumulator holds. -/
theorem foldl_jumpBit_state (v : Variant) (bits : List Bool) (J : JumpScan) :
    (bits.foldl (fun J b => jumpBit v b J) J).words = (stepsFrom v J.words J.cursor bits.length).1
      ∧ (bits.foldl (fun J b => jumpBit v b J) J).cursor = (stepsFrom v J.words J.cursor bits.length).2 := by
  induction bits using List.reverseRecOn with
  | nil => exact ⟨rfl, rfl⟩
  | append_singleton bits b ih =>
    obtain ⟨hwords, hcursor⟩ := ih
    simp [stepsFrom, hwords, hcursor]

theorem jumpScan_state (v : Variant) (q : List Word) (S : StateArray) (P : Cursor) :
    (jumpScan v q S P).words = (stepsFrom v S P (64 * q.length)).1
      ∧ (jumpScan v q S P).cursor = (stepsFrom v S P (64 * q.length)).2 := by
  rw [← length_polynomialBits]
  exact foldl_jumpBit_state v (polynomialBits q) _

theorem toNat_nextCursor (v : Variant) (P : Cursor) : (nextCursor v.len P).toNat = (P.toNat + 1) % v.len := by
  have hlt : (P.toNat + 1) % v.len < 2 ^ 6 := (Nat.mod_lt _ v.len_pos).trans_le v.len_le
  rw [nextCursor, BitVec.toNat_ofNat, Nat.mod_eq_of_lt hlt]

theorem stepsFrom_cursor_of_noCursor {v : Variant} (hv : v.hasCursor = false) (S : StateArray) (P : Cursor) (k : Nat) :
    (stepsFrom v S P k).2 = P := by
  induction k with
  | zero => rfl
  | succ k ih => simp [stepsFrom, stepVar_cursor, hv, ih]

/-- R450: k steps move the cursor on by k, modulo N. -/
theorem stepsFrom_cursor_of_hasCursor {v : Variant} (hv : v.hasCursor = true) (S : StateArray) {P : Cursor}
    (hP : P.toNat < v.len) (k : Nat) : (stepsFrom v S P k).2.toNat = (P.toNat + k) % v.len := by
  induction k with
  | zero => exact (Nat.mod_eq_of_lt hP).symm
  | succ k ih => simp [stepsFrom, stepVar_cursor, hv, toNat_nextCursor, ih, Nat.add_assoc]

theorem length_romJump {v : Variant} (hv : v.hasJump = true) : (Rom.jump v).length = v.len := by
  revert hv
  cases v <;> decide

/-- R465: the scan takes 64 N steps, a multiple of N, so a P in [0, N) comes back to where it was. -/
theorem jumpAlg_romJump_cursor {v : Variant} (hv : v.hasJump = true) (S : StateArray) {P : Cursor}
    (hP : P.toNat < v.len) : (jumpAlg v (Rom.jump v) S P).2 = P := by
  have hscan : (jumpAlg v (Rom.jump v) S P).2 = (stepsFrom v S P (64 * v.len)).2 := by
    rw [← length_romJump hv]
    exact (jumpScan_state v (Rom.jump v) S P).2
  rw [hscan]
  cases hc : v.hasCursor with
  | false => exact stepsFrom_cursor_of_noCursor hc S P _
  | true =>
    apply BitVec.eq_of_toNat_eq
    rw [stepsFrom_cursor_of_hasCursor hc S hP, Nat.add_mul_mod_self_right, Nat.mod_eq_of_lt hP]

/-! ## The effect of a command -/

/-- How a command can leave the unit x it executes on, before its completion (PEND <- 0): an error, or the effect of
that command under the guard its meaning tests. -/
inductive CommandEffect (x : Xscore) : Instr → Xscore → Prop
  | error (i : Instr) (e : CmdError) : CommandEffect x i (recordError x e)
  | nop : CommandEffect x .nop x
  | seed {n : Nat} {v : Variant} : variantOperand n = some v → CommandEffect x (.seed n) (afterSeed x v)
  | next : x.seeded = true → CommandEffect x .next (afterStep x (generatorStep x) (generatorStep x).out)
  | nexti63 : x.seeded = true →
      CommandEffect x .nexti63 (afterStep x (generatorStep x) ((generatorStep x).out &&& 0x7FFFFFFFFFFFFFFF))
  | jump : x.seeded = true → x.var.hasJump = true →
      CommandEffect x .jump { x with words := (jumpAlg x.var (Rom.jump x.var) x.words x.cursor).1
                                     cursor := (jumpAlg x.var (Rom.jump x.var) x.words x.cursor).2 }
  | rotl (k : Nat) : CommandEffect x (.rotl k) { x with res := Machine.rotl x.argl k }
  | rdstate {i : Nat} : x.seeded = true → i < x.var.len →
      CommandEffect x (.rdstate i) { x with res := StateArray.word x.words i }
  | wrstate {i : Nat} : x.seeded = true → i < x.var.len →
      CommandEffect x (.wrstate i) { x with words := StateArray.setWord x.words i x.argl }
  | rdcur : x.seeded = true → x.var.hasCursor = true →
      CommandEffect x .rdcur { x with res := x.cursor.setWidth 64 }
  | wrcur : x.seeded = true → x.var.hasCursor = true → x.argl.toNat < x.var.len →
      CommandEffect x .wrcur { x with cursor := x.argl.setWidth 6 }
  | clrstat : CommandEffect x .clrstat (clearSticky x)

/-- The answer is a next state: the command completed, its effect one of `CommandEffect`. -/
def Completes (i : Instr) (s : State) (r : Result) : Prop :=
  ∃ y, CommandEffect s.xs i y ∧ r = .next (s.finish y)

theorem completes_complete {i : Instr} {s : State} {y : Xscore} (h : CommandEffect s.xs i y) :
    Completes i s (complete s y) := ⟨y, h, rfl⟩

theorem completes_cmdError (i : Instr) (s : State) (e : CmdError) : Completes i s (cmdError s e) :=
  ⟨recordError s.xs e, .error i e, rfl⟩

/-- The SEEDED guard (R601): what lies behind it need only complete on a seeded unit. -/
theorem completes_whenSeeded {i : Instr} {s : State} {r : Result} (h : s.xs.seeded = true → Completes i s r) :
    Completes i s (whenSeeded s r) := by
  cases hs : s.xs.seeded with
  | true => rw [whenSeeded_of_seeded hs]; exact h hs
  | false => rw [whenSeeded_of_unseeded hs]; exact completes_cmdError i s .notSeeded

theorem execSeed_completes (n : Nat) (s : State) : Completes (.seed n) s (execSeed n s) := by
  unfold execSeed
  split
  · next v hv => exact completes_complete (.seed hv)
  · exact completes_cmdError _ s _

theorem execJump_completes (s : State) : Completes .jump s (execJump s) := by
  refine completes_whenSeeded fun hs => ?_
  split
  · next hj => exact completes_complete (.jump hs hj)
  · exact completes_cmdError _ s _

theorem execRdstate_completes (i : Nat) (s : State) : Completes (.rdstate i) s (execRdstate i s) := by
  refine completes_whenSeeded fun hs => ?_
  split
  · next j hj =>
    obtain ⟨hlt, rfl⟩ := indexOperand_eq_some.mp hj
    exact completes_complete (.rdstate hs hlt)
  · exact completes_cmdError _ s _

theorem execWrstate_completes (i : Nat) (s : State) : Completes (.wrstate i) s (execWrstate i s) := by
  refine completes_whenSeeded fun hs => ?_
  split
  · next j hj =>
    obtain ⟨hlt, rfl⟩ := indexOperand_eq_some.mp hj
    exact completes_complete (.wrstate hs hlt)
  · exact completes_cmdError _ s _

theorem execRdcur_completes (s : State) : Completes .rdcur s (execRdcur s) := by
  refine completes_whenSeeded fun hs => ?_
  split
  · next hc => exact completes_complete (.rdcur hs hc)
  · exact completes_cmdError _ s _

theorem execWrcur_completes (s : State) : Completes .wrcur s (execWrcur s) := by
  refine completes_whenSeeded fun hs => ?_
  split
  · next hc =>
    split
    · next P hP =>
      obtain ⟨hlt, rfl⟩ := cursorOperand_eq_some.mp hP
      exact completes_complete (.wrcur hs hc hlt)
    · exact completes_cmdError _ s _
  · exact completes_cmdError _ s _

/-- Every command on every state completes. -/
theorem exec_completes (i : Instr) (s : State) : Completes i s (exec i s) := by
  cases i with
  | nop => exact completes_complete .nop
  | seed n => exact execSeed_completes n s
  | next => exact completes_whenSeeded fun hs => completes_complete (.next hs)
  | nexti63 => exact completes_whenSeeded fun hs => completes_complete (.nexti63 hs)
  | jump => exact execJump_completes s
  | rotl k => exact completes_complete (.rotl k)
  | rdstate i => exact execRdstate_completes i s
  | wrstate i => exact execWrstate_completes i s
  | rdcur => exact execRdcur_completes s
  | wrcur => exact execWrcur_completes s
  | clrstat => exact completes_complete .clrstat

variable {x y : Xscore} {i : Instr}

/-- The registers no command writes (R106, R110, R620), and OVR, which CLRSTAT alone writes (R112). -/
theorem CommandEffect.frame (h : CommandEffect x i y) :
    y.arg = x.arg ∧ y.base = x.base ∧ y.cmdl = x.cmdl ∧ y.argl = x.argl ∧ y.overrun = x.overrun
      ∧ (i ≠ .clrstat → y.ovr = x.ovr) := by
  cases h <;> simp

theorem CommandEffect.res_eq (h : CommandEffect x i y) (hi : writesRes i = false) : y.res = x.res := by
  cases h with
  | next | nexti63 | rotl | rdstate | rdcur => cases hi
  | error | nop | seed | jump | wrstate | wrcur | clrstat => rfl

theorem CommandEffect.var_seeded_eq (h : CommandEffect x i y) (hi : isSeed i = false) :
    y.var = x.var ∧ y.seeded = x.seeded := by
  cases h with
  | seed => cases hi
  | error | nop | next | nexti63 | jump | rotl | rdstate | wrstate | rdcur | wrcur | clrstat => exact ⟨rfl, rfl⟩

theorem CommandEffect.words_eq (h : CommandEffect x i y) (hi : writesWords i = false) : y.words = x.words := by
  cases h with
  | seed | next | nexti63 | jump | wrstate => cases hi
  | error | nop | rotl | rdstate | rdcur | wrcur | clrstat => rfl

/-- JUMP is not among the writers of P, because its steps bring P back (R465). -/
theorem CommandEffect.cursor_eq (h : CommandEffect x i y) (hi : writesCursor i = false)
    (hP : x.cursor.toNat < x.var.len) : y.cursor = x.cursor := by
  cases h with
  | jump _ hj => exact jumpAlg_romJump_cursor hj x.words hP
  | seed | next | nexti63 | wrcur => cases hi
  | error | nop | rotl | rdstate | wrstate | rdcur | clrstat => rfl

end Sys2Proof.Machine
end

section
/-! PROOF. What one step of any agent can do, said once (00_scope.md R13): `UnitChange` for the unit it reaches,
`HostChange` for the host that acts, `step_change` for the machine. -/

namespace Sys2Proof.Machine

/-! ## Changes of a unit, of the units, of a host -/

/-- How a step can change the unit it reaches: not at all, a command that completes, an illegal command (R303), a
register write (R204), a reset (R700). -/
inductive UnitChange (x : Xscore) : Xscore → Prop
  | stay : UnitChange x x
  | command {i : Instr} {y : Xscore} : CommandEffect x i y → UnitChange x { y with pend := false }
  | illegal : UnitChange x { recordError x .illegalCmd with pend := false }
  | write (r : Reg) (v : Word) : UnitChange x (regWrite x r v)
  | reset : UnitChange x (Xscore.reset x.base)

/-- The units of t are those of s, but for a change of unit i. -/
def UnitChangesAt (i : Nat) (s t : State) : Prop :=
  ∃ x y, s.units[i]? = some x ∧ UnitChange x y ∧ t.units = s.units.set i y

/-- The units of t are those of s, but for a change of one at most. -/
def UnitsChange (s t : State) : Prop := t.units = s.units ∨ ∃ i, UnitChangesAt i s t

/-- What a host statement can do to the host's private data: nothing, or one write to the result list or to an array
(30_encoding.md R307). -/
inductive HostChange (h h' : HostAgent) : Prop
  | dataKept : h'.results = h.results → h'.arrays = h.arrays → HostChange h h'
  | stored (c : HostCell) : h'.results = putCell c h.results → h'.arrays = h.arrays → HostChange h h'
  | arrayStored (c : HostCell) : h'.results = h.results → h'.arrays = putCell c h.arrays → HostChange h h'

/-- The hosts of t are those of s, but for a statement of host k, which was h. -/
def HostChangesAt (k : Nat) (h : HostAgent) (s t : State) : Prop :=
  ∃ h', HostChange h h' ∧ t.hosts = s.hosts.set k h'

/-- The hosts of t are those of s, but for a change of one at most. -/
def HostsChange (s t : State) : Prop := t.hosts = s.hosts ∨ ∃ k h, s.hosts[k]? = some h ∧ HostChangesAt k h s t

/-! ## The engine -/

theorem State.units_getElem?_selected (s : State) : s.units[s.left.length]? = some s.xs := by
  simp [State.units]

theorem State.units_replaceSelected (s : State) (y : Xscore) :
    State.units { s with xs := y } = s.units.set s.left.length y := by
  simp [State.units]

/-- The engine's step always answers, and changes the selected unit only (R711). -/
theorem engineStep_eq (s : State) : ∃ y, UnitChange s.xs y ∧ engineStep s = .next { s with xs := y } := by
  unfold engineStep
  split
  · split
    · next i _ =>
      obtain ⟨y, hy, heq⟩ := exec_completes i s
      exact ⟨_, .command hy, heq⟩
    · exact ⟨_, .illegal, rfl⟩
  · exact ⟨_, .stay, rfl⟩

variable {s t : State}

theorem engineStep_change (h : engineStep s = .next t) : UnitChangesAt s.left.length s t ∧ t.hosts = s.hosts := by
  obtain ⟨y, hy, heq⟩ := engineStep_eq s
  rw [heq] at h
  cases h
  exact ⟨⟨s.xs, y, s.units_getElem?_selected, hy, s.units_replaceSelected y⟩, rfl⟩

/-- An engine move changes no unit but its own. -/
theorem engineMove_change {i : Nat} (h : engineMove i s = .next t) :
    (t.units = s.units ∨ UnitChangesAt i s t) ∧ t.hosts = s.hosts := by
  unfold engineMove at h
  split at h
  · next s' hsel =>
    obtain ⟨hx, hleft, -, hunits, hhosts, -, -⟩ := State.select_spec hsel
    obtain ⟨hi, -⟩ := List.getElem?_eq_some_iff.mp hx
    have hindex : s'.left.length = i := by rw [hleft, List.length_take]; omega
    obtain ⟨hchange, hkept⟩ := engineStep_change h
    rw [UnitChangesAt, hindex, hunits] at hchange
    exact ⟨.inr hchange, hkept.trans hhosts⟩
  · cases h
    exact ⟨.inl rfl, rfl⟩

theorem resetMove_change {i : Nat} (h : resetMove i s = .next t) :
    (t.units = s.units ∨ UnitChangesAt i s t) ∧ t.hosts = s.hosts := by
  unfold resetMove at h
  split at h
  · next s' hsel =>
    obtain ⟨x, hx⟩ : ∃ x, s.units[i]? = some x := ⟨_, (State.select_spec hsel).1⟩
    rw [State.select_isSome hx] at hsel
    cases hsel
    cases h
    exact ⟨.inr ⟨x, _, hx, .reset, State.units_of_select hx _ _ _ _⟩, rfl⟩
  · cases h
    exact ⟨.inl rfl, rfl⟩

/-! ## The bus and the hosts -/

theorem busWrite_change {addr bits : Nat} {v : Word} (h : s.busWrite addr bits v = some t) :
    UnitsChange s t ∧ t.hosts = s.hosts := by
  obtain ⟨i, x, r, -, hx, hunits, hhosts, -, -⟩ := State.busWrite_spec h
  exact ⟨.inr ⟨i, x, _, hx, .write r v, hunits⟩, hhosts⟩

theorem busMove_change {a : Access} (h : busMove a s = .next t) : UnitsChange s t ∧ t.hosts = s.hosts := by
  cases a with
  | write addr bits v =>
    simp only [busMove] at h
    split at h
    · next s' hs' =>
      cases h
      exact busWrite_change hs'
    · cases h
  | read addr bits =>
    simp only [busMove] at h
    split at h
    · cases h
      exact ⟨.inl rfl, rfl⟩
    · cases h

variable {k : Nat} {h : HostAgent}

theorem hostStays_change {h' : HostAgent} (ht : hostStays k s h' = .next t) (hh : HostChange h h') :
    UnitsChange s t ∧ HostChangesAt k h s t := by
  cases ht
  exact ⟨.inl rfl, h', hh, rfl⟩

theorem hostWrite_change {off : Nat} {v : Word} (ht : hostWrite k h s off v = .next t) :
    UnitsChange s t ∧ HostChangesAt k h s t := by
  unfold hostWrite at ht
  split at ht
  · next s' hs' =>
    cases ht
    obtain ⟨hunits, hhosts⟩ := busWrite_change hs'
    exact ⟨hunits, h.advance, .dataKept rfl rfl, by rw [State.setHost_hosts, hhosts]⟩
  · cases ht

theorem hostRead_change {off : Nat} {r : HReg} (ht : hostRead k h s off r = .next t) :
    UnitsChange s t ∧ HostChangesAt k h s t := by
  unfold hostRead at ht
  split at ht
  · next v _ =>
    cases ht
    exact ⟨.inl rfl, h.set r v, .dataKept rfl rfl, rfl⟩
  · cases ht

theorem hostLoad_change {r : HReg} {name index : Nat} (ht : hostLoad k h s r name index = .next t) :
    UnitsChange s t ∧ HostChangesAt k h s t := by
  unfold hostLoad at ht
  split at ht
  · exact hostStays_change ht (.dataKept rfl rfl)
  · cases ht

theorem HostAgent.branch_change (h : HostAgent) (taken : Bool) (target : Nat) :
    HostChange h (h.branch taken target) := by
  cases taken <;> exact .dataKept rfl rfl

theorem runStmt_change {st : Stmt} (ht : runStmt k h s st = .next t) : UnitsChange s t ∧ HostChangesAt k h s t := by
  cases st with
  | warg | wargr | wcmd | wcmdRaw | wcmdr => exact hostWrite_change ht
  | rres | rstat => exact hostRead_change ht
  | movi | addi | andi | shli | or | jmp | halt => exact hostStays_change ht (.dataKept rfl rfl)
  | bnez | blti => exact hostStays_change ht (h.branch_change _ _)
  | store r name => exact hostStays_change ht (.stored _ rfl rfl)
  | hstore r name index => exact hostStays_change ht (.arrayStored _ rfl rfl)
  | hload => exact hostLoad_change ht

theorem hostMove_change (ht : hostMove k s = .next t) : UnitsChange s t ∧ HostsChange s t := by
  unfold hostMove at ht
  split at ht
  · next h hh =>
    split at ht
    · obtain ⟨hunits, hhost⟩ := runStmt_change ht
      exact ⟨hunits, .inr ⟨k, h, hh, hhost⟩⟩
    · cases ht
      exact ⟨.inl rfl, .inl rfl⟩
  · cases ht
    exact ⟨.inl rfl, .inl rfl⟩

/-! ## The step -/

theorem doMove_change {m : Move} (ht : doMove m s = .next t) : UnitsChange s t ∧ HostsChange s t := by
  cases m with
  | host k => exact hostMove_change ht
  | engine i =>
    obtain ⟨hunits, hhosts⟩ := engineMove_change ht
    exact ⟨hunits.imp_right fun hi => ⟨i, hi⟩, .inl hhosts⟩
  | access a =>
    obtain ⟨hunits, hhosts⟩ := busMove_change ht
    exact ⟨hunits, .inl hhosts⟩
  | reset i =>
    obtain ⟨hunits, hhosts⟩ := resetMove_change ht
    exact ⟨hunits.imp_right fun hi => ⟨i, hi⟩, .inl hhosts⟩

/-- The automatic move is one of the placed ones: an engine's, a host's, or none (log 6). -/
theorem autoMove_change (ht : autoMove s = .next t) : UnitsChange s t ∧ HostsChange s t := by
  unfold autoMove at ht
  split at ht
  · obtain ⟨hunit, hhosts⟩ := engineStep_change ht
    exact ⟨.inr ⟨_, hunit⟩, .inl hhosts⟩
  · split at ht
    · next i _ => exact doMove_change (m := .engine i) ht
    · split at ht
      · exact hostMove_change ht
      · cases ht
        exact ⟨.inl rfl, .inl rfl⟩

/-- One step changes one unit at most and one host at most, each as `UnitChange` and `HostChange` say. -/
theorem step_change (ht : step s = .next t) : UnitsChange s t ∧ HostsChange s t := by
  cases hsched : s.sched with
  | nil =>
    rw [step_of_no_move hsched] at ht
    exact autoMove_change ht
  | cons m ms =>
    rw [step_of_move hsched] at ht
    exact doMove_change (s := { s with sched := ms }) ht

end Sys2Proof.Machine
end

section
/-! PROOF. The invariant (10_state.md R105, R108; 60_exceptions.md R600; D6, log 4; log 22): every change of a unit and
of a host keeps it, so every step does. -/

namespace Sys2Proof.Machine

variable {x y : Xscore}

theorem CmdError.code_ne_zero (e : CmdError) : e.code ≠ 0 := by cases e <;> decide

theorem CmdError.code_le (e : CmdError) : e.code.toNat ≤ 6 := by cases e <;> decide

/-! ## Units -/

/-- The invariant speaks of BASE, VAR, P, ERR and ECODE only: a new P must be in range, the rest stays. -/
theorem Xscore.Inv.setCursor (hx : x.Inv) {P : Cursor} (hlt : P.toNat < x.var.len)
    (hzero : x.var.hasCursor = false → P = 0) : Xscore.Inv { x with cursor := P } := by
  obtain ⟨-, -, hflags⟩ := hx
  exact ⟨hlt, hzero, hflags⟩

theorem Xscore.Inv.generatorStep_cursor (hx : x.Inv) :
    (generatorStep x).cursor.toNat < x.var.len ∧ (x.var.hasCursor = false → (generatorStep x).cursor = 0) := by
  obtain ⟨hlt, hzero, -⟩ := hx
  refine ⟨stepVar_cursor_lt x.var x.words hlt, fun hc => ?_⟩
  rw [generatorStep, stepVar_cursor, hc]
  exact hzero hc

theorem Xscore.Inv.afterStep (hx : x.Inv) (out : Word) : (afterStep x (generatorStep x) out).Inv := by
  obtain ⟨hlt, hzero⟩ := hx.generatorStep_cursor
  exact hx.setCursor hlt hzero

theorem Xscore.Inv.afterSeed (hx : x.Inv) (v : Variant) : (afterSeed x v).Inv := by
  obtain ⟨-, -, hflags⟩ := hx
  exact ⟨v.len_pos, fun _ => rfl, hflags⟩

/-- R603: ECODE takes a code of 1 to 6 with the first error and keeps it after. -/
theorem Xscore.Inv.recordError (hx : x.Inv) (e : CmdError) : (recordError x e).Inv := by
  obtain ⟨hlt, hzero, hle, hiff, hbase⟩ := hx
  have hcode : (Machine.recordError x e).ecode.toNat ≤ 6 ∧ (Machine.recordError x e).ecode ≠ 0 := by
    rw [recordError_ecode]
    split
    · next herr => exact ⟨hle, fun h0 => by simp [hiff.mpr h0] at herr⟩
    · exact ⟨e.code_le, e.code_ne_zero⟩
  exact ⟨hlt, hzero, hcode.1, iff_of_false (by simp) hcode.2, hbase⟩

theorem Xscore.Inv.clearSticky (hx : x.Inv) : (clearSticky x).Inv := by
  obtain ⟨hlt, hzero, -, -, hbase⟩ := hx
  exact ⟨hlt, hzero, Nat.zero_le 6, iff_of_true rfl rfl, hbase⟩

theorem Xscore.inv_reset {base : Nat} (hbase : base % 8 = 0) : (Xscore.reset base).Inv :=
  ⟨Nat.zero_lt_one, fun _ => rfl, Nat.zero_le 6, iff_of_true rfl rfl, hbase⟩

theorem CommandEffect.inv {i : Instr} (hy : CommandEffect x i y) (hx : x.Inv) : y.Inv := by
  cases hy with
  | error i e => exact hx.recordError e
  | seed => exact hx.afterSeed _
  | next | nexti63 => exact hx.afterStep _
  | jump _ hj =>
    rw [jumpAlg_romJump_cursor hj x.words hx.1]
    exact hx
  | wrcur _ hc hargl =>
    refine hx.setCursor ?_ (fun hno => by simp [hc] at hno)
    exact (Nat.mod_le _ _).trans_lt (by simpa using hargl)
  | nop | rotl | rdstate | wrstate | rdcur => exact hx
  | clrstat => exact hx.clearSticky

theorem Xscore.Inv.regWrite (hx : x.Inv) (r : Reg) (v : Word) : (regWrite x r v).Inv := by
  cases r with
  | cmd =>
    cases hp : x.pend with
    | false => simp only [Machine.regWrite, writeCmd_of_idle hp]; exact hx
    | true => simp only [Machine.regWrite, writeCmd_of_busy hp]; exact hx
  | arg | res | status => exact hx

theorem UnitChange.inv (h : UnitChange x y) (hx : x.Inv) : y.Inv := by
  cases h with
  | stay => exact hx
  | command hy => exact hy.inv hx
  | illegal => exact hx.recordError .illegalCmd
  | write r v => exact hx.regWrite r v
  | reset =>
    obtain ⟨-, -, -, -, hbase⟩ := hx
    exact Xscore.inv_reset hbase

/-! ## Hosts and the machine -/

/-- The clause of the invariant on one host (log 22). -/
def HostAgent.Sorted (h : HostAgent) : Prop := cellsSorted h.results ∧ cellsSorted h.arrays

theorem HostChange.sorted {h h' : HostAgent} (hc : HostChange h h') (hh : h.Sorted) : h'.Sorted := by
  obtain ⟨hresults, harrays⟩ := hh
  cases hc with
  | dataKept hr ha => exact ⟨hr ▸ hresults, ha ▸ harrays⟩
  | stored c hr ha => exact ⟨hr ▸ putCell_sorted c _ hresults, ha ▸ harrays⟩
  | arrayStored c hr ha => exact ⟨hr ▸ hresults, ha ▸ putCell_sorted c _ harrays⟩

/-- A property of every element survives the replacement of one by an element that has it. -/
theorem forall_mem_set {α : Type} {p : α → Prop} {l : List α} (hl : ∀ a ∈ l, p a) {b : α} (hb : p b) (i : Nat) :
    ∀ a ∈ l.set i b, p a := by
  intro a ha
  rcases List.mem_or_eq_of_mem_set ha with hmem | rfl
  · exact hl a hmem
  · exact hb

variable {s t : State}

theorem UnitsChange.inv (h : UnitsChange s t) (hs : ∀ x ∈ s.units, x.Inv) : ∀ x ∈ t.units, x.Inv := by
  rcases h with heq | ⟨i, x, y, hx, hchange, heq⟩
  · rwa [heq]
  · rw [heq]
    exact forall_mem_set hs (hchange.inv (hs x (List.mem_of_getElem? hx))) i

theorem HostsChange.sorted (h : HostsChange s t) (hs : ∀ h ∈ s.hosts, h.Sorted) : ∀ h ∈ t.hosts, h.Sorted := by
  rcases h with heq | ⟨k, h, hh, h', hchange, heq⟩
  · rwa [heq]
  · rw [heq]
    exact forall_mem_set hs (hchange.sorted (hs h (List.mem_of_getElem? hh))) k

theorem step_keeps_inv (hs : s.Inv) (ht : step s = .next t) : t.Inv := by
  obtain ⟨hunits, hhosts⟩ := step_change ht
  exact ⟨hunits.inv hs.1, hhosts.sorted hs.2⟩

/-! ## Reset -/

theorem Config.xsBase_aligned (i : Nat) : Config.xsBase i % 8 = 0 := Nat.mul_mod_right 8 _

theorem statusWord_reset (base : Nat) : statusWord (Xscore.reset base) = 0 := by
  simp [statusWord, bitOf, Variant.code]

/-- R113, R620: the units after reset, in order. -/
theorem State.units_reset :
    State.reset.units = (List.range Config.numInstances).map (fun i => Xscore.reset (Config.xsBase i)) := by
  simp [State.reset, State.units, Config.numInstances, List.range_succ_eq_map, Function.comp_def]

theorem State.inv_reset : State.reset.Inv := by
  refine ⟨fun x hx => ?_, fun h hh => nomatch hh⟩
  rw [State.units_reset] at hx
  obtain ⟨i, -, rfl⟩ := List.mem_map.mp hx
  exact Xscore.inv_reset (Config.xsBase_aligned i)

end Sys2Proof.Machine
end

section
/-! PROOF. The register window: which bit of STATUS is what (10_state.md R108), and what a write at a register's offset
does (20_memory.md R204). -/

namespace Sys2Proof.Machine

theorem getLsbD_bitOf (b : Bool) (j : Nat) : (BitVec.ofNat 64 (bitOf b)).getLsbD j = (decide (j = 0) && b) := by
  cases b <;> simp [bitOf]

theorem getLsbD_bitOf_shiftLeft (b : Bool) (k : Nat) {j : Nat} (hj : j < 64) :
    (BitVec.ofNat 64 (bitOf b) <<< k).getLsbD j = (decide (j = k) && b) := by
  rw [BitVec.getLsbD_shiftLeft, getLsbD_bitOf]
  rcases Nat.lt_trichotomy j k with h | rfl | h
  · simp [h, h.ne]
  · simp [hj]
  · simp [h.ne', show j - k ≠ 0 by omega]

theorem getLsbD_field_shiftLeft (c : BitVec 4) (k : Nat) {j : Nat} (hj : j < 64) :
    (c.setWidth 64 <<< k).getLsbD j = (decide (k ≤ j) && c.getLsbD (j - k)) := by
  simp only [BitVec.getLsbD_shiftLeft, BitVec.getLsbD_setWidth, hj, show j - k < 64 by omega, decide_true,
    Bool.true_and, ← Nat.not_lt, decide_not]

/-- Each bit of STATUS, the fields one after another. -/
theorem getLsbD_statusWord (x : Xscore) {j : Nat} (hj : j < 64) :
    (statusWord x).getLsbD j
      = (decide (j = 0) && x.pend || decide (j = 1) && x.seeded || decide (j = 2) && x.err || decide (j = 3) && x.ovr
          || decide (4 ≤ j) && x.ecode.getLsbD (j - 4) || decide (8 ≤ j) && x.var.code.getLsbD (j - 8)) := by
  simp only [statusWord, BitVec.getLsbD_or, getLsbD_bitOf, getLsbD_bitOf_shiftLeft _ _ hj,
    getLsbD_field_shiftLeft _ _ hj]

/-- Above the four flags stand ECODE and VAR. -/
theorem getLsbD_statusWord_of_ge (x : Xscore) {j : Nat} (h : 4 ≤ j) (hj : j < 64) :
    (statusWord x).getLsbD j = (x.ecode.getLsbD (j - 4) || decide (8 ≤ j) && x.var.code.getLsbD (j - 8)) := by
  rw [getLsbD_statusWord x hj]
  simp [h, show j ≠ 0 by omega, show j ≠ 1 by omega, show j ≠ 2 by omega, show j ≠ 3 by omega]

theorem extractLsb'_statusWord_ecode (x : Xscore) : (statusWord x).extractLsb' 4 4 = x.ecode := by
  apply BitVec.eq_of_getLsbD_eq
  intro j hj
  rw [BitVec.getLsbD_extractLsb', getLsbD_statusWord_of_ge x (by omega) (by omega), Nat.add_sub_cancel_left]
  simp [hj, show ¬8 ≤ 4 + j by omega]

theorem extractLsb'_statusWord_var (x : Xscore) : (statusWord x).extractLsb' 8 4 = x.var.code := by
  apply BitVec.eq_of_getLsbD_eq
  intro j hj
  rw [BitVec.getLsbD_extractLsb', getLsbD_statusWord_of_ge x (by omega) (by omega), Nat.add_sub_cancel_left,
    BitVec.getLsbD_of_ge x.ecode _ (by omega)]
  simp [hj]

theorem extractLsb'_statusWord_reserved (x : Xscore) : (statusWord x).extractLsb' 12 52 = 0 := by
  apply BitVec.eq_of_getLsbD_eq
  intro j hj
  rw [BitVec.getLsbD_extractLsb', getLsbD_statusWord_of_ge x (by omega) (by omega),
    BitVec.getLsbD_of_ge x.ecode _ (by omega), BitVec.getLsbD_of_ge x.var.code _ (by omega)]
  simp

/-- The register at an offset of the first unit whose window holds the address. -/
theorem State.target_of_atWindow {s : State} {i off : Nat} {x : Xscore} {r : Reg}
    (hw : s.atWindow i x (x.base + off)) (hr : regAt off = some r) : s.target (x.base + off) 64 = some (i, r) := by
  obtain ⟨hx, hholds, hearlier⟩ := hw
  obtain ⟨hi, hxi⟩ := List.getElem?_eq_some_iff.mp hx
  have hfirst : s.units.findIdx? (fun y => y.holds (x.base + off)) = some i := by
    rw [List.findIdx?_eq_some_iff_getElem]
    refine ⟨hi, by rwa [hxi], fun j hj => ?_⟩
    rw [hearlier _ (List.mem_take_iff_getElem.mpr ⟨j, by omega, rfl⟩)]
    decide
  simp [State.target, hfirst, hx, hr]

/-- A 64-bit write at a register's offset replaces that unit by `regWrite` of it, and does nothing else. -/
theorem step_write_of_atWindow {s : State} {i off : Nat} {x : Xscore} {r : Reg} {v : Word} {ms : List Move}
    (hs : s.sched = .access (.write (x.base + off) 64 v) :: ms) (hw : s.atWindow i x (x.base + off))
    (hr : regAt off = some r) :
    ∃ t : State, step s = .next t ∧ t.units = s.units.set i (regWrite x r v) ∧ t.hosts = s.hosts ∧ t.sched = ms
      ∧ t.rdata = s.rdata := by
  have hx : (State.units { s with sched := ms })[i]? = some x := hw.1
  have htarget : State.target { s with sched := ms } (x.base + off) 64 = some (i, r) := State.target_of_atWindow hw hr
  have hwrite : State.busWrite { s with sched := ms } (x.base + off) 64 v
      = some { s with left := s.units.take i, xs := regWrite x r v, right := s.units.drop (i + 1), sched := ms } := by
    simp only [State.busWrite, htarget, State.select_isSome hx]
    rfl
  refine ⟨_, ?_, State.units_of_select hw.1 _ _ _ _, rfl, rfl, rfl⟩
  rw [step_of_move hs]
  simp only [doMove, busMove, hwrite]

end Sys2Proof.Machine
end

section
/-! PROOF. The statements of 10_state.md. -/

namespace Sys2Proof.Proofs

open Sys2Proof.Machine

/-- Settles O9: R105, R108, R600, by `step_change` (what a step can do to a unit and to a host) and the invariant of
each such change. -/
theorem stepKeepsInvariant : Obligations.StepKeepsInvariant :=
  fun _ _ hs ht => step_keeps_inv hs ht

/-- Settles O11: R106, R110, R112, R604, by `exec_completes` and the frame of `CommandEffect`. -/
theorem everyCommandCompletes : Obligations.EveryCommandCompletes := by
  intro i s
  obtain ⟨y, hy, heq⟩ := exec_completes i s
  exact ⟨s.finish y, heq, rfl, rfl, rfl, rfl, rfl, rfl, hy.frame⟩

/-- Settles O12: R102 to R105 and R107, register by register over `CommandEffect`; for JUMP and P, by R465. -/
theorem writersOfEachRegister : Obligations.WritersOfEachRegister := by
  intro i s t ht
  obtain ⟨y, hy, heq⟩ := exec_completes i s
  obtain rfl : s.finish y = t := by rw [heq] at ht; cases ht; rfl
  exact ⟨hy.res_eq, hy.var_seeded_eq, hy.words_eq, hy.cursor_eq⟩

/-- Settles O43: R108, from the bits of `statusWord`. -/
theorem statusFieldLayout : Obligations.StatusFieldLayout := by
  intro x
  refine ⟨?_, ?_, ?_, ?_, extractLsb'_statusWord_ecode x, extractLsb'_statusWord_var x,
    extractLsb'_statusWord_reserved x⟩
  all_goals rw [getLsbD_statusWord x (by decide)]; simp

/-- Settles O44: R109, R710, as a write at offset 0x00 of an idle unit. -/
theorem cmdWriteWhileIdleIsAccepted : Obligations.CmdWriteWhileIdleIsAccepted := by
  intro s i x c ms hs hw hidle
  rw [← writeCmd_of_idle hidle]
  exact step_write_of_atWindow (off := 0x00) (r := .cmd) hs hw rfl

/-- Settles O46: R106, R204, R713, as a write at offset 0x08. -/
theorem argWriteSetsArgOnly : Obligations.ArgWriteSetsArgOnly :=
  fun _ _ _ _ _ hs hw => step_write_of_atWindow (r := .arg) hs hw rfl

/-- Settles O47: R107, R108, R204: writing RES or STATUS puts the unit back as it was. -/
theorem resAndStatusWritesAreIgnored : Obligations.ResAndStatusWritesAreIgnored := by
  intro s i off x v ms hoff hs hw
  obtain ⟨hi, hx⟩ := List.getElem?_eq_some_iff.mp hw.1
  have hsame : s.units = s.units.set i x := by rw [← hx, List.set_getElem_self]
  rw [hsame]
  rcases hoff with rfl | rfl
  · exact step_write_of_atWindow (r := .res) hs hw rfl
  · exact step_write_of_atWindow (r := .status) hs hw rfl

/-- Settles O6: R113, R700, R620, from the list of the units after reset. -/
theorem resetStateOfEveryUnit : Obligations.ResetStateOfEveryUnit := by
  rw [Obligations.ResetStateOfEveryUnit, State.units_reset]
  refine ⟨by simp, fun i x hx => ?_, fun x hx => ?_⟩
  · rw [List.getElem?_map, Option.map_eq_some_iff] at hx
    obtain ⟨j, hj, rfl⟩ := hx
    obtain ⟨_, rfl⟩ := List.getElem?_eq_some_iff.mp hj
    rw [List.getElem_range, Xscore.reset_base]
  · obtain ⟨i, -, rfl⟩ := List.mem_map.mp hx
    exact ⟨rfl, rfl, rfl, rfl, rfl, statusWord_reset _, rfl⟩

/-- Settles O8: R105, R108, R113, D6, for the reset state of each unit. -/
theorem resetSatisfiesInvariant : Obligations.ResetSatisfiesInvariant := State.inv_reset

end Sys2Proof.Proofs
end

section
/-! PROOF. The register window: what a read at a register's offset returns (20_memory.md R204), and which accesses find no
register (R202). -/

namespace Sys2Proof.Machine

/-- A 64-bit read at a register's offset returns that register. -/
theorem State.busRead_of_atWindow {s : State} {i off : Nat} {x : Xscore} {r : Reg}
    (hw : s.atWindow i x (x.base + off)) (hr : regAt off = some r) :
    s.busRead (x.base + off) 64 = some (regRead x r) := by
  simp [State.busRead, State.target_of_atWindow hw hr, hw.1]

/-- A 64-bit read at a register's offset records what it returned, and does nothing else. -/
theorem step_read_of_atWindow {s : State} {i off : Nat} {x : Xscore} {r : Reg} {ms : List Move}
    (hs : s.sched = .access (.read (x.base + off) 64) :: ms) (hw : s.atWindow i x (x.base + off))
    (hr : regAt off = some r) : step s = .next { s with sched := ms, rdata := regRead x r } := by
  have hread : State.busRead { s with sched := ms } (x.base + off) 64 = some (regRead x r) :=
    State.busRead_of_atWindow hw hr
  rw [step_of_move hs]
  simp only [doMove, busMove, hread]

theorem regAt_offset {off : Nat} {r : Reg} (h : regAt off = some r) : off ∈ [0x00, 0x08, 0x10, 0x18] := by
  unfold regAt at h
  split at h
  case h_5 => cases h
  all_goals decide

/-- The unit whose window holds the address would have it at one of its registers. -/
theorem State.target_eq_none {s : State} {addr bits : Nat}
    (h : bits ≠ 64 ∨ ∀ x ∈ s.units, ∀ off ∈ [0x00, 0x08, 0x10, 0x18], addr ≠ x.base + off) :
    s.target addr bits = none := by
  rw [Option.eq_none_iff_forall_ne_some]
  rintro ⟨i, r⟩ htarget
  obtain ⟨hbits, x, hx, hholds, hr⟩ := State.target_spec htarget
  have hbase : x.base ≤ addr := by
    simp only [Xscore.holds, Bool.and_eq_true, decide_eq_true_eq] at hholds
    exact hholds.1
  rcases h with h | h
  · exact h hbits
  · exact h x (List.mem_of_getElem? hx) _ (regAt_offset hr) (Nat.add_sub_cancel' hbase).symm

/-- An access that finds no register is refused, read or write. -/
theorem busMove_of_target_eq_none {s : State} {addr bits : Nat} (h : s.target addr bits = none) (v : Word) :
    busMove (.write addr bits v) s = .refused .accessNotAdmitted
      ∧ busMove (.read addr bits) s = .refused .accessNotAdmitted := by
  simp [busMove, State.busWrite, State.busRead, h]

end Sys2Proof.Machine
end

section
/-! PROOF. The save and restore procedure (20_memory.md R207): one equation for each of its commands, then what a run of
reading commands returns, and what a unit is while it is restored. -/

namespace Sys2Proof.Machine

/-! ## The commands, when they succeed -/

variable {s : State}

section
variable (seeded : s.xs.seeded = true)
include seeded

theorem exec_rdstate_of_lt {i : Nat} (hi : i < s.xs.var.len) :
    exec (.rdstate i) s = complete s { s.xs with res := StateArray.word s.xs.words i } := by
  refine (whenSeeded_of_seeded seeded _).trans ?_
  rw [indexOperand_eq_some.mpr ⟨hi, rfl⟩]

theorem exec_wrstate_of_lt {i : Nat} (hi : i < s.xs.var.len) :
    exec (.wrstate i) s = complete s { s.xs with words := StateArray.setWord s.xs.words i s.xs.argl } := by
  refine (whenSeeded_of_seeded seeded _).trans ?_
  rw [indexOperand_eq_some.mpr ⟨hi, rfl⟩]
  rfl

theorem exec_rdcur_of_hasCursor (hc : s.xs.var.hasCursor = true) :
    exec .rdcur s = complete s { s.xs with res := s.xs.cursor.setWidth 64 } :=
  (whenSeeded_of_seeded seeded _).trans (if_pos hc)

theorem exec_wrcur_of_lt (hc : s.xs.var.hasCursor = true) (hP : s.xs.argl.toNat < s.xs.var.len) :
    exec .wrcur s = complete s { s.xs with cursor := s.xs.argl.setWidth 6 } := by
  refine (whenSeeded_of_seeded seeded _).trans ((if_pos hc).trans ?_)
  rw [cursorOperand_eq_some.mpr ⟨hP, rfl⟩]

end

theorem exec_seed_code (s : State) (v : Variant) : exec (.seed v.code.toNat) s = complete s (afterSeed s.xs v) := by
  simp only [exec, execSeed, variantOperand_code]

/-! ## Issuing one command -/

theorem decode_encode_seed : ∀ v < 16, decode (encode (.seed v)) = some (.seed v) := by decide

theorem decode_encode_rdstate : ∀ i < 64, decode (encode (.rdstate i)) = some (.rdstate i) := by decide

theorem decode_encode_wrstate : ∀ i < 64, decode (encode (.wrstate i)) = some (.wrstate i) := by decide

/-- The state in which an idle selected unit has accepted command i with ARG = arg, the engine's step still to come
(70_reset_and_hazards.md R710). -/
def State.withIssued (s : State) (arg : Word) (i : Instr) : State :=
  { s with xs := { s.xs with arg := arg, cmdl := encode i, argl := arg, pend := true, overrun := false } }

/-- `issue_of_decode`, the accepted state by its name. -/
theorem issue_eq_exec {i : Instr} (idle : s.xs.pend = false) (h : decode (encode i) = some i) (arg : Word) :
    issue arg i s = exec i (s.withIssued arg i) :=
  issue_of_decode arg idle h

/-! ## Saving -/

/-- The reading command and the value it returns on unit x. -/
inductive Reads (x : Xscore) : Instr → Word → Prop
  | rdstate {i : Nat} : i < x.var.len → Reads x (.rdstate i) (StateArray.word x.words i)
  | rdcur : x.var.hasCursor = true → Reads x .rdcur (x.cursor.setWidth 64)

/-- What saving leaves as it was: all a serialised form is made of, and the error flags. -/
structure SaveKeeps (x y : Xscore) : Prop where
  var : y.var = x.var
  words : y.words = x.words
  cursor : y.cursor = x.cursor
  seeded : y.seeded = x.seeded
  pend : y.pend = x.pend
  err : y.err = x.err
  ecode : y.ecode = x.ecode

theorem SaveKeeps.refl (x : Xscore) : SaveKeeps x x := ⟨rfl, rfl, rfl, rfl, rfl, rfl, rfl⟩

theorem SaveKeeps.trans {x y z : Xscore} (h : SaveKeeps x y) (h' : SaveKeeps y z) : SaveKeeps x z :=
  ⟨h'.var.trans h.var, h'.words.trans h.words, h'.cursor.trans h.cursor, h'.seeded.trans h.seeded,
    h'.pend.trans h.pend, h'.err.trans h.err, h'.ecode.trans h.ecode⟩

/-- A reading command returns the same on a unit that has kept its state. -/
theorem Reads.of_saveKeeps {x y : Xscore} {i : Instr} {w : Word} (h : Reads x i w) (hk : SaveKeeps x y) :
    Reads y i w := by
  cases h with
  | rdstate hi =>
    rw [← hk.words]
    exact .rdstate (by rwa [hk.var])
  | rdcur hc =>
    rw [← hk.cursor]
    exact .rdcur (by rwa [hk.var])

theorem issue_of_reads {i : Instr} {w : Word} (h : Reads s.xs i w) (idle : s.xs.pend = false)
    (seeded : s.xs.seeded = true) (arg : Word) :
    ∃ t, issue arg i s = .next t ∧ t.xs.res = w ∧ SaveKeeps s.xs t.xs := by
  cases h with
  | rdstate hi =>
    exact ⟨_, (issue_eq_exec idle (decode_encode_rdstate _ (hi.trans_le s.xs.var.len_le)) arg).trans
      (exec_rdstate_of_lt (s := s.withIssued arg _) seeded hi), rfl, rfl, rfl, rfl, rfl, idle.symm, rfl, rfl⟩
  | rdcur hc =>
    exact ⟨_, (issue_eq_exec idle (by decide) arg).trans
      (exec_rdcur_of_hasCursor (s := s.withIssued arg _) seeded hc), rfl, rfl, rfl, rfl, rfl, idle.symm, rfl, rfl⟩

/-- Reading commands one after another return each its value, because each keeps what the next ones read. -/
theorem readAll_of_reads {is : List Instr} {ws : List Word} (h : List.Forall₂ (Reads s.xs) is ws)
    (idle : s.xs.pend = false) (seeded : s.xs.seeded = true) :
    ∃ t, readAll is s = some (ws, t) ∧ SaveKeeps s.xs t.xs := by
  induction is generalizing s ws with
  | nil =>
    cases h
    exact ⟨s, rfl, .refl _⟩
  | cons i is ih =>
    obtain _ | ⟨hw, hws⟩ := h
    obtain ⟨t, ht, rfl, hst⟩ := issue_of_reads hw idle seeded s.xs.arg
    obtain ⟨u, hu, htu⟩ := ih (hws.imp fun _ _ hr => hr.of_saveKeeps hst) (hst.pend.trans idle)
      (hst.seeded.trans seeded)
    exact ⟨u, by rw [readAll_cons_of_next is ht, hu]; rfl, hst.trans htu⟩

/-- The reading commands of R207 return S[0..N-1], and P where there is a cursor. -/
theorem saveCommands_read (x : Xscore) :
    List.Forall₂ (Reads x) (saveCommands x.var)
      (StateArray.firstWords x.words x.var.len ++ if x.var.hasCursor then [x.cursor.setWidth 64] else []) := by
  refine List.rel_append ?_ ?_
  · rw [StateArray.firstWords, List.forall₂_map_left_iff, List.forall₂_map_right_iff, List.forall₂_same]
    exact fun i hi => .rdstate (List.mem_range.mp hi)
  · cases hc : x.var.hasCursor with
    | true => exact .cons (.rdcur hc) .nil
    | false => exact .nil

theorem saveAll_eq_serialized (idle : s.xs.pend = false) (seeded : s.xs.seeded = true) :
    ∃ t, saveAll s = some (s.xs.serialized, t) ∧ SaveKeeps s.xs t.xs := by
  obtain ⟨t, ht, hk⟩ := readAll_of_reads (saveCommands_read s.xs) idle seeded
  refine ⟨t, ?_, hk⟩
  rw [saveAll, ht, extractLsb'_statusWord_var]
  rfl

/-! ## Restoring -/

/-- The unit that was x is being restored: idle, seeded with variant v, its cursor P, and ERR, ECODE and RES those of x. -/
structure Restoring (x : Xscore) (v : Variant) (P : Cursor) (y : Xscore) : Prop where
  var : y.var = v
  cursor : y.cursor = P
  seeded : y.seeded = true
  idle : y.pend = false
  err : y.err = x.err
  ecode : y.ecode = x.ecode
  res : y.res = x.res

/-- The SEED begins the restoring, P at 0. -/
theorem issue_seed_restoring (idle : s.xs.pend = false) (seed : Word) (v : Variant) :
    ∃ t, issue seed (.seed v.code.toNat) s = .next t ∧ Restoring s.xs v 0 t.xs :=
  ⟨_, (issue_eq_exec idle (decode_encode_seed _ v.code.isLt) seed).trans (exec_seed_code _ v),
    rfl, rfl, rfl, rfl, rfl, rfl, rfl⟩

variable {x : Xscore} {v : Variant} {P : Cursor}

theorem issue_wrstate_restoring (h : Restoring x v P s.xs) {i : Nat} (hi : i < v.len) (w : Word) :
    ∃ t, issue w (.wrstate i) s = .next t ∧ t.xs.words = StateArray.setWord s.xs.words i w
      ∧ Restoring x v P t.xs :=
  ⟨_, (issue_eq_exec h.idle (decode_encode_wrstate i (hi.trans_le v.len_le)) w).trans
      (exec_wrstate_of_lt (s := s.withIssued w _) h.seeded (h.var ▸ hi)),
    rfl, h.var, h.cursor, h.seeded, rfl, h.err, h.ecode, h.res⟩

/-- The low 6 bits of ARGL are the cursor that was zero-extended into it. -/
theorem issue_wrcur_restoring (h : Restoring x v P s.xs) (hc : v.hasCursor = true) {Q : Cursor} (hQ : Q.toNat < v.len) :
    ∃ t, issue (Q.setWidth 64) .wrcur s = .next t ∧ t.xs.words = s.xs.words ∧ Restoring x v Q t.xs := by
  have hlt : (Q.setWidth 64).toNat < s.xs.var.len := by rwa [h.var, BitVec.toNat_setWidth_of_le (by decide)]
  have hback : (Q.setWidth 64).setWidth 6 = Q := by simp
  exact ⟨_, (issue_eq_exec h.idle (by decide) _).trans
      (exec_wrcur_of_lt (s := s.withIssued _ _) h.seeded (h.var ▸ hc) hlt),
    rfl, h.var, hback, h.seeded, rfl, h.err, h.ecode, h.res⟩

theorem issueAll_append_of_next {cs : List (Word × Instr)} {t : State} (h : issueAll cs s = .next t)
    (ds : List (Word × Instr)) : issueAll (cs ++ ds) s = issueAll ds t := by
  induction cs generalizing s with
  | nil =>
    cases h
    rfl
  | cons c cs ih =>
    simp only [issueAll] at h
    split at h
    · next u hu =>
      rw [List.cons_append, issueAll_cons_of_next _ hu]
      exact ih h
    · cases h
    · cases h

/-- After WRSTATE 0 to WRSTATE n-1 each of the n words is the one written: no later write reaches it. -/
theorem issueAll_wrstate_restoring (h : Restoring x v P s.xs) (f : Nat → Word) {n : Nat} (hn : n ≤ v.len) :
    ∃ t, issueAll ((List.range n).map fun i => (f i, Instr.wrstate i)) s = .next t
      ∧ (∀ i < n, StateArray.word t.xs.words i = f i) ∧ Restoring x v P t.xs := by
  induction n with
  | zero => exact ⟨s, rfl, by simp, h⟩
  | succ n ih =>
    obtain ⟨t, ht, hwords, hrt⟩ := ih (by omega)
    obtain ⟨u, hu, huwords, hru⟩ := issue_wrstate_restoring hrt hn (f n)
    refine ⟨u, ?_, fun i hi => ?_, hru⟩
    · rw [List.range_succ, List.map_append, issueAll_append_of_next ht]
      exact issueAll_cons_of_next [] hu
    · rw [huwords, StateArray.word_setWord _ _ _ _ (hn.trans v.len_le)]
      split
      · next heq => rw [heq]
      · exact hwords i (by omega)

/-- The WRCUR of the rotating-buffer variants sets P; the others have no cursor and keep P = 0. -/
theorem issueAll_cursor_restoring (h : Restoring x v 0 s.xs) {Q : Cursor} (hQ : Q.toNat < v.len)
    (hzero : v.hasCursor = false → Q = 0) :
    ∃ t, issueAll (if v.hasCursor then [(Q.setWidth 64, .wrcur)] else []) s = .next t
      ∧ t.xs.words = s.xs.words ∧ Restoring x v Q t.xs := by
  cases hc : v.hasCursor with
  | true =>
    obtain ⟨t, ht, hwords, hrt⟩ := issue_wrcur_restoring h hc hQ
    exact ⟨t, issueAll_cons_of_next [] ht, hwords, hrt⟩
  | false =>
    obtain rfl := hzero hc
    exact ⟨s, rfl, rfl, h⟩

/-- Issuing the restore commands of x's serialised form reproduces VAR, P and S[0..N-1]. -/
theorem issueAll_restoreCommands (idle : s.xs.pend = false) (x : Xscore) (anySeed : Word)
    (hP : x.cursor.toNat < x.var.len) (hzero : x.var.hasCursor = false → x.cursor = 0) :
    ∃ t, issueAll (restoreCommands x.serialized anySeed) s = .next t
      ∧ (∀ i < x.var.len, StateArray.word t.xs.words i = StateArray.word x.words i)
      ∧ Restoring s.xs x.var x.cursor t.xs := by
  obtain ⟨t₁, hseed, h₁⟩ := issue_seed_restoring idle anySeed x.var
  obtain ⟨t₂, hwrites, hwords, h₂⟩ := issueAll_wrstate_restoring h₁ (StateArray.word x.words) (le_refl x.var.len)
  obtain ⟨t₃, hcursor, hkept, h₃⟩ := issueAll_cursor_restoring h₂ hP hzero
  refine ⟨t₃, ?_, fun i hi => by rw [hkept, hwords i hi], h₃⟩
  rw [restoreCommands_serialized, issueAll_cons_of_next _ hseed, issueAll_append_of_next hwrites, hcursor]

end Sys2Proof.Machine
end

section
/-! PROOF. The statements of 20_memory.md. -/

namespace Sys2Proof.Proofs

open Sys2Proof.Machine

/-- Settles O48: R201, R204, R713, as a read at each of the four offsets. -/
theorem readsReturnRegistersWithoutEffect : Obligations.ReadsReturnRegistersWithoutEffect := by
  intro s i off x v ms hoff hs hw
  rcases hoff with ⟨rfl, rfl⟩ | ⟨rfl, rfl⟩ | ⟨rfl, rfl⟩ | ⟨rfl, rfl⟩
  · exact step_read_of_atWindow (r := .cmd) hs hw rfl
  · exact step_read_of_atWindow (r := .arg) hs hw rfl
  · exact step_read_of_atWindow (r := .res) hs hw rfl
  · exact step_read_of_atWindow (r := .status) hs hw rfl

/-- Settles O49: R201, R202: such an access finds no register in any window. -/
theorem otherAccessesAreRefused : Obligations.OtherAccessesAreRefused := by
  intro s addr bits v ms h
  have htarget : State.target { s with sched := ms } addr bits = none := State.target_eq_none h
  obtain ⟨hwrite, hread⟩ := busMove_of_target_eq_none htarget v
  exact ⟨fun hs => (step_of_move hs).trans hwrite, fun hs => (step_of_move hs).trans hread⟩

/-- Settles O51: R207. Saving runs reading commands, which keep what they read; restoring runs SEED, the WRSTATEs and,
with a cursor, WRCUR, each of which keeps what the ones before it have set. -/
theorem restoreReproducesSavedState : Obligations.RestoreReproducesSavedState := by
  refine ⟨fun s idle seeded => ?_, fun s x anySeed idle hP hzero => ?_⟩
  · obtain ⟨t, ht, hk⟩ := saveAll_eq_serialized idle seeded
    exact ⟨t, ht, hk.var, hk.words, hk.cursor, hk.seeded.trans seeded, hk.pend.trans idle, hk.err, hk.ecode⟩
  · obtain ⟨t, ht, hwords, hr⟩ := issueAll_restoreCommands idle x anySeed hP hzero
    exact ⟨t, ht, hr.var, hr.cursor, hwords, hr.seeded, hr.idle, hr.err, hr.ecode, hr.res⟩

end Sys2Proof.Proofs
end

section
/-! PROOF. The decoder and the encoder (30_encoding.md R300 to R306): which values a row of the opcode map selects, that
a selected value is the encoding of the row's command, and that the decoder accepts exactly the legal values (R303). -/

namespace Sys2Proof

/-! ## From a command to its CMD value and back -/

theorem decode_encode_rotl : ∀ k < 64, decode (encode (.rotl k)) = some (.rotl k) := by decide

/-- The round trip, operand by operand: each field holds 16 or 64 numbers (R302). -/
theorem decode_encode {i : Instr} (h : i.wellFormed = true) : decode (encode i) = some i := by
  cases i with
  | seed v => exact Machine.decode_encode_seed v (of_decide_eq_true h)
  | rotl k => exact decode_encode_rotl k (of_decide_eq_true h)
  | rdstate i => exact Machine.decode_encode_rdstate i (of_decide_eq_true h)
  | wrstate i => exact Machine.decode_encode_wrstate i (of_decide_eq_true h)
  | nop | next | nexti63 | jump | rdcur | wrcur | clrstat => decide

/-! ## The fields of a CMD value (R300) -/

theorem varField_lt (c : Word) : varField c < 16 := (c.extractLsb' 4 4).isLt

theorem idxField_lt (c : Word) : idxField c < 64 := (c.extractLsb' 8 6).isLt

/-- A field put back at its place is the value masked to it. -/
theorem extractLsb'_shiftLeft_eq_and (c : Word) (k n : Nat) :
    BitVec.ofNat 64 (c.extractLsb' k n).toNat <<< k = c &&& (BitVec.allOnes n).setWidth 64 <<< k := by
  rw [BitVec.ofNat_toNat]
  ext j hj
  by_cases hk : j < k
  · simp [hk]
  · simp [hk, show k + (j - k) = j by omega, BitVec.getLsbD_eq_getElem hj, Bool.and_comm]

theorem opField_eq_and (c : Word) : BitVec.ofNat 64 (opField c) = c &&& 0xF := by
  rw [← BitVec.shiftLeft_zero (BitVec.ofNat 64 (opField c))]
  exact extractLsb'_shiftLeft_eq_and c 0 4

theorem varField_shiftLeft_eq_and (c : Word) : BitVec.ofNat 64 (varField c) <<< 4 = c &&& 0xF0 :=
  extractLsb'_shiftLeft_eq_and c 4 4

theorem idxField_shiftLeft_eq_and (c : Word) : BitVec.ofNat 64 (idxField c) <<< 8 = c &&& 0x3F00 :=
  extractLsb'_shiftLeft_eq_and c 8 6

/-- A command with the fields of c as its opcode and operands is encoded as c, if the bits [63:14] of c are zero. -/
theorem encode_eq_of_fields {c : Word} {i : Instr} (hlow : c.toNat < 2 ^ 14) (hop : opcodeOf i = opField c)
    (hvar : varOperand i = varField c) (hidx : idxOperand i = idxField c) : encode i = c := by
  have hmask : c &&& 0x3FFF = c := by
    apply BitVec.eq_of_toNat_eq
    rw [BitVec.toNat_and]
    exact (Nat.and_two_pow_sub_one_eq_mod _ 14).trans (Nat.mod_eq_of_lt hlow)
  rw [encode, hop, hvar, hidx, opField_eq_and, varField_shiftLeft_eq_and, idxField_shiftLeft_eq_and,
    ← BitVec.and_or_distrib_left, ← BitVec.and_or_distrib_left]
  exact hmask

/-! ## The rows of the opcode map (R301) -/

theorem decode_eq_some {c : Word} {i : Instr} (h : decode c = some i) :
    ∃ r ∈ opcodeMap, r.selects c = true ∧ r.command c = i := by
  unfold decode at h
  split at h
  · next r hr =>
    cases h
    exact ⟨r, List.mem_of_find?_eq_some hr, List.find?_some (p := fun r : OpRow => r.selects c) hr, rfl⟩
  · cases h

theorem exists_decode_iff {c : Word} : (∃ i, decode c = some i) ↔ ∃ r ∈ opcodeMap, r.selects c = true := by
  constructor
  · rintro ⟨i, h⟩
    obtain ⟨r, hr, hsel, -⟩ := decode_eq_some h
    exact ⟨r, hr, hsel⟩
  · intro h
    obtain ⟨r, hr⟩ := Option.isSome_iff_exists.mp ((List.find?_isSome (p := fun r : OpRow => r.selects c)).mpr h)
    exact ⟨r.command c, by rw [decode, hr]⟩

variable {c : Word} {r : OpRow}

theorem command_wellFormed (hr : r ∈ opcodeMap) (c : Word) : (r.command c).wellFormed = true := by
  simp only [opcodeMap, List.mem_cons, List.not_mem_nil, or_false] at hr
  rcases hr with rfl | rfl | rfl | rfl | rfl | rfl | rfl | rfl | rfl | rfl | rfl <;>
    simp [Instr.wellFormed, varField_lt, idxField_lt]

/-- A row's command is encoded as the row's match, with the bits the row leaves free taken from the value. -/
theorem encode_command (hr : r ∈ opcodeMap) (c : Word) :
    encode (r.command c) = r.pattern ||| c &&& ~~~r.mask := by
  simp only [opcodeMap, List.mem_cons, List.not_mem_nil, or_false] at hr
  rcases hr with rfl | rfl | rfl | rfl | rfl | rfl | rfl | rfl | rfl | rfl | rfl <;>
    simp [encode, opcodeOf, varOperand, idxOperand, varField_shiftLeft_eq_and, idxField_shiftLeft_eq_and]

theorem encode_command_of_selects (hr : r ∈ opcodeMap) (h : r.selects c = true) : encode (r.command c) = c := by
  have hmatch : c &&& r.mask = r.pattern := beq_iff_eq.mp h
  rw [encode_command hr, ← hmatch, ← BitVec.and_or_distrib_left, BitVec.or_not_self, BitVec.and_allOnes]

/-- A field that the mask covers is the match's. -/
theorem extractLsb'_of_selects (h : r.selects c = true) {k n : Nat}
    (hmask : r.mask.extractLsb' k n = BitVec.allOnes n) : c.extractLsb' k n = r.pattern.extractLsb' k n := by
  have hmatch : c &&& r.mask = r.pattern := beq_iff_eq.mp h
  rw [← hmatch, BitVec.extractLsb'_and, hmask, BitVec.and_allOnes]

/-- The match of a row that selects c is the OP field of c. -/
theorem pattern_eq_and_of_selects (hr : r ∈ opcodeMap) (h : r.selects c = true) : r.pattern = c &&& 0xF := by
  have hop : ∀ r ∈ opcodeMap, r.mask &&& 0xF = 0xF ∧ r.pattern &&& 0xF = r.pattern := by decide
  obtain ⟨hmask, hpattern⟩ := hop r hr
  rw [← hpattern, ← (beq_iff_eq.mp h : c &&& r.mask = r.pattern), BitVec.and_assoc, hmask]

/-- At most one row selects a value: the rows have different matches. -/
theorem length_filter_selects_le (c : Word) : (opcodeMap.filter (fun r => r.selects c)).length ≤ 1 := by
  have hnodup : (opcodeMap.map OpRow.pattern).Nodup := by decide
  have hsame : (opcodeMap.filter (fun r => r.selects c)).map OpRow.pattern
      = List.replicate (opcodeMap.filter (fun r => r.selects c)).length (c &&& 0xF) := by
    refine List.eq_replicate_iff.mpr ⟨List.length_map .., fun p hp => ?_⟩
    obtain ⟨r, hr, rfl⟩ := List.mem_map.mp hp
    obtain ⟨hmem, hsel⟩ := List.mem_filter.mp hr
    exact pattern_eq_and_of_selects hmem hsel
  rw [← List.nodup_replicate (a := c &&& 0xF), ← hsame]
  exact hnodup.sublist (List.filter_sublist.map _)

theorem length_filter_selects_eq_one_iff (c : Word) :
    (opcodeMap.filter (fun r => r.selects c)).length = 1 ↔ ∃ r ∈ opcodeMap, r.selects c = true := by
  have hle := length_filter_selects_le c
  have hpos := List.length_filter_pos_iff (l := opcodeMap) (p := fun r : OpRow => r.selects c)
  rw [← hpos]
  omega

/-! ## Legality (R303) -/

/-- The five conditions, as R303 numbers them, said of the fields. -/
theorem legal_iff_fields (c : Word) : legal c = true ↔
    (c.extractLsb' 32 32).toNat = 0 ∧ (c.extractLsb' 14 18).toNat = 0 ∧ opField c ≤ 0xA
      ∧ (varField c = 0 ∨ opField c = 0x1)
      ∧ (idxField c = 0 ∨ opField c = 0x5 ∨ opField c = 0x6 ∨ opField c = 0x7) := by
  simp only [legal, Bool.and_eq_true, Bool.or_eq_true, decide_eq_true_eq, and_assoc, or_assoc]

/-- The same said of the number that c is. -/
theorem legal_iff (c : Word) : legal c = true ↔
    c.toNat / 2 ^ 32 = 0 ∧ c.toNat / 2 ^ 14 % 2 ^ 18 = 0 ∧ c.toNat % 16 ≤ 0xA
      ∧ (c.toNat / 16 % 16 = 0 ∨ c.toNat % 16 = 0x1)
      ∧ (c.toNat / 256 % 64 = 0 ∨ c.toNat % 16 = 0x5 ∨ c.toNat % 16 = 0x6 ∨ c.toNat % 16 = 0x7) := by
  have hhigh : c.toNat / 2 ^ 32 % 2 ^ 32 = c.toNat / 2 ^ 32 := Nat.mod_eq_of_lt (by omega)
  simp only [legal_iff_fields, opField, varField, idxField, BitVec.extractLsb'_toNat, Nat.shiftRight_eq_div_pow, hhigh]
  norm_num

/-- Every match is legal, and a selected value differs from it at most in VAR or IDX, which only the rows that conditions
4 and 5 name leave free. -/
theorem legal_of_selects (hr : r ∈ opcodeMap) (h : r.selects c = true) : legal c = true := by
  have hrow : ∀ r ∈ opcodeMap, legal r.pattern = true ∧ r.mask.extractLsb' 32 32 = BitVec.allOnes 32
      ∧ r.mask.extractLsb' 14 18 = BitVec.allOnes 18 ∧ r.mask.extractLsb' 0 4 = BitVec.allOnes 4
      ∧ (r.mask.extractLsb' 4 4 = BitVec.allOnes 4 ∨ opField r.pattern = 0x1)
      ∧ (r.mask.extractLsb' 8 6 = BitVec.allOnes 6 ∨ opField r.pattern = 0x5 ∨ opField r.pattern = 0x6
        ∨ opField r.pattern = 0x7) := by decide
  obtain ⟨hlegal, hhigh, hreserved, hop, hvar, hidx⟩ := hrow r hr
  have hopField : opField c = opField r.pattern := congrArg BitVec.toNat (extractLsb'_of_selects h hop)
  rw [legal_iff_fields] at hlegal ⊢
  rw [extractLsb'_of_selects h hhigh, extractLsb'_of_selects h hreserved, hopField]
  obtain ⟨hhigh0, hreserved0, hle, hvar0, hidx0⟩ := hlegal
  refine ⟨hhigh0, hreserved0, hle, ?_, ?_⟩
  · rcases hvar with hvar | hop1
    · rwa [show varField c = varField r.pattern from congrArg BitVec.toNat (extractLsb'_of_selects h hvar)]
    · exact .inr hop1
  · rcases hidx with hidx | hop567
    · rwa [show idxField c = idxField r.pattern from congrArg BitVec.toNat (extractLsb'_of_selects h hidx)]
    · exact .inr hop567

/-- Fields that meet conditions 3 to 5 are those of some command. -/
theorem exists_command_of_fields {op v k : Nat} (hop : op ≤ 0xA) (hv : v < 16) (hk : k < 64) (hvar : v = 0 ∨ op = 0x1)
    (hidx : k = 0 ∨ op = 0x5 ∨ op = 0x6 ∨ op = 0x7) :
    ∃ i : Instr, i.wellFormed = true ∧ opcodeOf i = op ∧ varOperand i = v ∧ idxOperand i = k := by
  have hzero : ∀ op ≤ 0xA, ∃ r ∈ opcodeMap, opcodeOf (r.command 0) = op ∧ varOperand (r.command 0) = 0
      ∧ idxOperand (r.command 0) = 0 := by decide
  rcases hvar with rfl | rfl
  · rcases hidx with rfl | rfl | rfl | rfl
    · obtain ⟨r, hr, hfields⟩ := hzero op hop
      exact ⟨r.command 0, command_wellFormed hr 0, hfields⟩
    · exact ⟨.rotl k, decide_eq_true hk, rfl, rfl, rfl⟩
    · exact ⟨.rdstate k, decide_eq_true hk, rfl, rfl, rfl⟩
    · exact ⟨.wrstate k, decide_eq_true hk, rfl, rfl, rfl⟩
  · obtain rfl : k = 0 := by omega
    exact ⟨.seed v, decide_eq_true hv, rfl, rfl, rfl⟩

theorem exists_encode_of_legal (h : legal c = true) : ∃ i : Instr, i.wellFormed = true ∧ encode i = c := by
  have hlow : c.toNat < 2 ^ 14 := by
    obtain ⟨hhigh, hreserved, -⟩ := (legal_iff c).mp h
    omega
  obtain ⟨-, -, hop, hvar, hidx⟩ := (legal_iff_fields c).mp h
  obtain ⟨i, hwf, hop, hvar, hidx⟩ := exists_command_of_fields hop (varField_lt c) (idxField_lt c) hvar hidx
  exact ⟨i, hwf, encode_eq_of_fields hlow hop hvar hidx⟩

theorem legal_iff_exists_decode : legal c = true ↔ ∃ i, decode c = some i := by
  constructor
  · intro h
    obtain ⟨i, hwf, rfl⟩ := exists_encode_of_legal h
    exact ⟨i, decode_encode hwf⟩
  · intro h
    obtain ⟨r, hr, hsel⟩ := exists_decode_iff.mp h
    exact legal_of_selects hr hsel

theorem decode_eq_none_of_not_legal (h : legal c = false) : decode c = none := by
  cases hd : decode c with
  | none => rfl
  | some i => exact absurd (legal_iff_exists_decode.mpr ⟨i, hd⟩) (by simp [h])

end Sys2Proof
end

section
/-! PROOF. What the machine does with an illegal CMD value (R303), and a host's statements at its window (R307). -/

namespace Sys2Proof.Machine

variable {s : State}

theorem engineStep_of_not_legal (busy : s.xs.pend = true) (h : legal s.xs.cmdl = false) :
    engineStep s = cmdError s .illegalCmd := by
  simp only [engineStep, busy, decode_eq_none_of_not_legal h, if_true]

/-- A 64-bit write at a register's offset succeeds: it replaces that unit by `regWrite` of it, and does nothing else. -/
theorem State.busWrite_of_atWindow {i off : Nat} {x : Xscore} {r : Reg} (hw : s.atWindow i x (x.base + off))
    (hr : regAt off = some r) (v : Word) :
    ∃ t : State, s.busWrite (x.base + off) 64 v = some t ∧ t.units = s.units.set i (regWrite x r v)
      ∧ t.hosts = s.hosts ∧ t.sched = s.sched ∧ t.rdata = s.rdata := by
  refine ⟨_, ?_, State.units_of_select hw.1 _ _ _ _, rfl, rfl, rfl⟩
  simp only [State.busWrite, State.target_of_atWindow hw hr, State.select_isSome hw.1]
  rfl

theorem getCell_eq_none {name index : Nat} {ds : List HostCell} :
    getCell name index ds = none ↔ ∀ d ∈ ds, ¬(d.name = name ∧ d.index = index) := by
  simp [getCell]

variable {k : Nat} {h : HostAgent} {ms : List Move}

/-- The step of a host whose turn it is executes its next statement. -/
theorem step_host {st : Stmt} (hs : s.sched = .host k :: ms) (hk : s.hosts[k]? = some h)
    (hst : h.prog[h.pc]? = some st) : step s = runStmt k h { s with sched := ms } st := by
  rw [step_of_move hs]
  simp only [doMove, hostMove, hk, hst]

theorem hostWrite_of_atWindow {u off : Nat} {x : Xscore} {r : Reg} (hbase : x.base = h.base)
    (hw : s.atWindow u x (x.base + off)) (hr : regAt off = some r) (v : Word) :
    ∃ t : State, hostWrite k h s off v = .next t ∧ t.units = s.units.set u (regWrite x r v)
      ∧ t.hosts = s.hosts.set k h.advance ∧ t.sched = s.sched ∧ t.rdata = s.rdata := by
  obtain ⟨t, ht, hunits, hhosts, hsched, hrdata⟩ := State.busWrite_of_atWindow hw hr v
  refine ⟨t.setHost k h.advance, ?_, hunits, by rw [State.setHost_hosts, hhosts], hsched, hrdata⟩
  rw [hostWrite, ← hbase, ht]

theorem hostRead_of_atWindow {u off : Nat} {x : Xscore} {r : Reg} (hbase : x.base = h.base)
    (hw : s.atWindow u x (x.base + off)) (hr : regAt off = some r) (d : HReg) :
    hostRead k h s off d = .next (s.setHost k (h.set d (regRead x r))) := by
  rw [hostRead, ← hbase, State.busRead_of_atWindow hw hr]

theorem hostLoad_of_unwritten {name index : Nat} (hnone : ∀ c ∈ h.arrays, ¬(c.name = name ∧ c.index = index))
    (d : HReg) : hostLoad k h s d name index = .fault .hostArrayUnwritten := by
  rw [hostLoad, getCell_eq_none.mpr hnone]

end Sys2Proof.Machine
end

section
/-! PROOF. The statements of 30_encoding.md. -/

namespace Sys2Proof.Proofs

open Sys2Proof.Machine

/-- Settles O1: R303, R306, command by command (`decode_encode`). -/
theorem decodeOfEncodedCommand : Obligations.DecodeOfEncodedCommand :=
  fun _ hwf => decode_encode hwf

/-- Settles O2: R301, R305, R306: some row selects the value, and its command's encoding has the row's match where the
mask is 1 and the value's own bits where it is 0. -/
theorem encodeOfDecodedCommand : Obligations.EncodeOfDecodedCommand := by
  intro c i h
  obtain ⟨r, hr, hsel, rfl⟩ := decode_eq_some h
  exact ⟨command_wellFormed hr c, encode_command_of_selects hr hsel⟩

/-- Settles O3: R303: a legal value is the encoding of a command, so a row selects it, and never two, because the rows'
matches differ in OP; a value some row selects has the fields R303 asks for. -/
theorem legalCommandValues : Obligations.LegalCommandValues := by
  refine ⟨fun c => ⟨legal_iff c, ?_, legal_iff_exists_decode⟩, fun s busy h => ?_⟩
  · rw [legal_iff_exists_decode, exists_decode_iff, length_filter_selects_eq_one_iff]
  · exact (engineStep_of_not_legal busy h).trans (cmdError_eq s .illegalCmd)

/-- Settles O54: R306, R307, R710, as a write at offset 0x00 of an idle unit. -/
theorem hostCommandIsIssued : Obligations.HostCommandIsIssued := by
  intro s k u h x i ms hs hk hst hbase hw idle
  rw [step_host hs hk hst, ← writeCmd_of_idle idle]
  exact hostWrite_of_atWindow (s := { s with sched := ms }) (off := 0x00) (r := .cmd) hbase hw rfl (encode i)

/-- Settles O55: R307: RSTAT is a read at offset 0x18; HLOAD finds no cell. -/
theorem hostReadsAndFaults : Obligations.HostReadsAndFaults := by
  intro s k h ms hs hk
  refine ⟨fun u x r hst hbase hw => ?_, fun r j name hst hnone => ?_⟩
  · exact (step_host hs hk hst).trans
      (hostRead_of_atWindow (s := { s with sched := ms }) (r := .status) hbase hw rfl r)
  · exact (step_host hs hk hst).trans (hostLoad_of_unwritten hnone r)

/-- Settles O4: R301, R304, R306, by running the decoder on the seventeen values. -/
theorem sampleCommandWords : Obligations.SampleCommandWords := by
  unfold Obligations.SampleCommandWords
  decide

end Sys2Proof.Proofs
end

section
/-! PROOF. The rotate primitive (40_bitrotate.md R400, R402) and ROTL (R401): `rotl` by its bits, from which the laws of
the rotation follow. -/

namespace Sys2Proof.Machine

variable {k : Nat}

/-- For a count below 64 the primitive is the library's rotation. -/
theorem rotl_eq_rotateLeft (x : Word) (hk : k < 64) : rotl x k = x.rotateLeft k := by
  rw [rotl, BitVec.rotateLeft_def, Nat.mod_eq_of_lt hk]
  split
  · next h => rw [h, BitVec.shiftLeft_zero, BitVec.ushiftRight_eq_zero (Nat.le_refl 64), BitVec.or_zero]
  · rfl

/-- R400: bits move up by k, and the top k of them to the bottom. -/
theorem getLsbD_rotateLeft_word (x : Word) (hk : k < 64) {j : Nat} (hj : j < 64) :
    (x.rotateLeft k).getLsbD j = x.getLsbD ((j + 64 - k) % 64) := by
  rw [BitVec.getLsbD_rotateLeft_of_le hk]
  by_cases h : j < k
  · rw [show (j + 64 - k) % 64 = 64 - k + j by omega]
    simp [h]
  · rw [show (j + 64 - k) % 64 = j - k by omega]
    simp [h, hj]

theorem getLsbD_rotl (x : Word) (hk : k < 64) {j : Nat} (hj : j < 64) :
    (rotl x k).getLsbD j = x.getLsbD ((j + 64 - k) % 64) := by
  rw [rotl_eq_rotateLeft x hk, getLsbD_rotateLeft_word x hk hj]

@[simp] theorem rotl_zero (x : Word) : rotl x 0 = x := rfl

/-- R402: rotations compose by adding their counts, since each moves every bit's place modulo 64. -/
theorem rotl_rotl (x : Word) {a b : Nat} (ha : a < 64) (hb : b < 64) : rotl (rotl x a) b = rotl x ((a + b) % 64) := by
  apply BitVec.eq_of_getLsbD_eq
  intro j hj
  rw [getLsbD_rotl _ hb hj, getLsbD_rotl _ ha (Nat.mod_lt _ (by decide)), getLsbD_rotl _ (Nat.mod_lt _ (by decide)) hj]
  congr 1
  omega

/-- R402: the rotation is linear over GF(2). -/
theorem rotl_xor (x y : Word) (hk : k < 64) : rotl (x ^^^ y) k = rotl x k ^^^ rotl y k := by
  apply BitVec.eq_of_getLsbD_eq
  intro j hj
  simp only [BitVec.getLsbD_xor, getLsbD_rotl _ hk hj]

/-- R402: two counts that add up to 0 modulo 64 undo each other. -/
theorem rotl_rotl_of_add_mod_eq_zero (x : Word) {a b : Nat} (ha : a < 64) (hb : b < 64) (hab : (a + b) % 64 = 0) :
    rotl (rotl x a) b = x := by
  rw [rotl_rotl x ha hb, hab, rotl_zero]

/-- R401: ROTL completes with the rotated ARGL in RES. -/
theorem exec_rotl (k : Nat) (s : State) : exec (.rotl k) s = complete s { s.xs with res := rotl s.xs.argl k } := rfl

end Sys2Proof.Machine
end

section
/-! PROOF. The statements of 40_bitrotate.md. -/

namespace Sys2Proof.Proofs

open Sys2Proof.Machine

/-- Settles O17: R400, R401: ROTL's one effect, with the primitive read as the library's rotation. -/
theorem rotlRotatesOperand : Obligations.RotlRotatesOperand := by
  intro k s hk
  refine ⟨?_, fun j hj => getLsbD_rotateLeft_word s.xs.argl hk hj⟩
  rw [exec_rotl, rotl_eq_rotateLeft s.xs.argl hk, complete_eq]

/-- Settles O18: R400, R402: the laws, each from the bits of a rotated word. -/
theorem rotationLaws : Obligations.RotationLaws := by
  refine ⟨fun x k hk => ⟨rfl, fun j hj => getLsbD_rotl x hk hj⟩, fun x a b ha hb => rotl_rotl x ha hb,
    fun x k hk => ?_, fun x y k hk => rotl_xor x y hk⟩
  have hinv : (64 - k) % 64 < 64 := Nat.mod_lt _ (by decide)
  exact ⟨rotl_rotl_of_add_mod_eq_zero x hk hinv (by omega), rotl_rotl_of_add_mod_eq_zero x hinv hk (by omega)⟩

end Sys2Proof.Proofs
end

section
/-! PROOF. SplitMix64 (41_splitmix64.md). `mix` is a composition of xorshifts and multiplications by odd constants, each
a bijection that keeps 0 (R414). The seed expansion by its words (R412, R413), and what SEED and NEXT leave (R411). -/

namespace Sys2Proof.Machine

/-! ## The output function (R410, R414) -/

/-- The difference of two words with the same xorshift equals its own shift down, so it is 0. -/
theorem xorShiftRight_injective {k : Nat} (hk : 0 < k) : Function.Injective (fun z : Word => z ^^^ (z >>> k)) := by
  intro x y (hxy : x ^^^ x >>> k = y ^^^ y >>> k)
  have hdiff : (x ^^^ y) >>> k = x ^^^ y := by
    refine (BitVec.xor_eq_zero_iff.mp ?_).symm
    calc x ^^^ y ^^^ (x ^^^ y) >>> k = (x ^^^ x >>> k) ^^^ (y ^^^ y >>> k) := by
          rw [BitVec.ushiftRight_xor_distrib]
          ac_rfl
      _ = 0#64 := by rw [hxy, BitVec.xor_self]
  have hdiv : (x ^^^ y).toNat / 2 ^ k = (x ^^^ y).toNat := by
    rw [← Nat.shiftRight_eq_div_pow, ← BitVec.toNat_ushiftRight, hdiff]
  have hzero : (x ^^^ y).toNat = 0 := (Nat.div_eq_self.mp hdiv).resolve_right (Nat.one_lt_two_pow hk.ne').ne'
  exact BitVec.xor_eq_zero_iff.mp (BitVec.eq_of_toNat_eq hzero)

theorem xorShiftRight_bijective {k : Nat} (hk : 0 < k) : Function.Bijective (fun z : Word => z ^^^ (z >>> k)) :=
  Finite.injective_iff_bijective.mp (xorShiftRight_injective hk)

/-- An odd constant has an inverse modulo 2^64. -/
theorem isUnit_m1 : IsUnit Rom.m1 := IsUnit.of_mul_eq_one 0x96DE1B173F119089 (by decide)

theorem isUnit_m2 : IsUnit Rom.m2 := IsUnit.of_mul_eq_one 0x319642B2D24D8EC3 (by decide)

/-- R414: each step of the two rounds and the last xorshift is a bijection. -/
theorem mix_bijective : Function.Bijective mix := by
  have hm1 : Function.Bijective (· * Rom.m1) := IsUnit.isUnit_iff_mulRight_bijective.mp isUnit_m1
  have hm2 : Function.Bijective (· * Rom.m2) := IsUnit.isUnit_iff_mulRight_bijective.mp isUnit_m2
  have hround1 := hm1.comp (xorShiftRight_bijective (k := 30) (by decide))
  have hround2 := hm2.comp (xorShiftRight_bijective (k := 27) (by decide))
  exact (xorShiftRight_bijective (k := 31) (by decide)).comp (hround2.comp hround1)

theorem mix_eq_zero_iff (z : Word) : mix z = 0 ↔ z = 0 :=
  mix_bijective.injective.eq_iff' (by decide)

/-! ## The seed expansion (R412, R413) -/

/-- R412: the i-th output follows i + 1 increments of the seed. -/
theorem getD_expand (t : Word) {n i : Nat} (hi : i < n) :
    (expand t n).getD i 0 = mix (t + BitVec.ofNat 64 (i + 1) * Rom.gamma) := by
  induction n generalizing t i with
  | zero => omega
  | succ n ih =>
    cases i with
    | zero => simp [expand]
    | succ i =>
      have hsum : t + Rom.gamma + BitVec.ofNat 64 (i + 1) * Rom.gamma
          = t + BitVec.ofNat 64 (i + 1 + 1) * Rom.gamma := by
        rw [BitVec.ofNat_add (i + 1) 1, add_assoc, add_comm Rom.gamma]
        exact congrArg (t + ·) (add_one_mul _ Rom.gamma).symm
      rw [expand, List.getD_cons_succ, ih _ (by omega), hsum]

theorem length_seedWords (v : Variant) (seed : Word) : (seedWords v seed).length = v.len := by
  cases v with
  | splitMix64 => rfl
  | _ => exact length_expand seed _

theorem getD_seedWords {v : Variant} (seed : Word) {i : Nat} (hi : i < v.len) :
    (seedWords v seed).getD i 0
      = if v.code.toNat = 0 then seed else mix (seed + BitVec.ofNat 64 (i + 1) * Rom.gamma) := by
  cases v with
  | splitMix64 =>
    obtain rfl : i = 0 := Nat.lt_one_iff.mp hi
    rfl
  | _ => exact getD_expand seed hi

theorem word_afterSeed_of_lt (x : Xscore) {v : Variant} {i : Nat} (hi : i < v.len) :
    StateArray.word (afterSeed x v).words i
      = if v.code.toNat = 0 then x.argl else mix (x.argl + BitVec.ofNat 64 (i + 1) * Rom.gamma) := by
  have hlen := length_seedWords v x.argl
  rw [afterSeed_words, StateArray.word_setWords _ _ _ _ (by simpa [hlen] using v.len_le), if_pos (by omega)]
  exact getD_seedWords x.argl hi

theorem word_afterSeed_of_le (x : Xscore) {v : Variant} {i : Nat} (hi : v.len ≤ i) :
    StateArray.word (afterSeed x v).words i = StateArray.word x.words i := by
  have hlen := length_seedWords v x.argl
  rw [afterSeed_words, StateArray.word_setWords _ _ _ _ (by simpa [hlen] using v.len_le), if_neg (by omega)]

/-- R414: word i of an expansion is 0 for the one seed that i + 1 increments bring to 0. -/
theorem word_afterSeed_eq_zero_iff (x : Xscore) {v : Variant} (hv : v.code.toNat ≠ 0) {i : Nat} (hi : i < v.len) :
    StateArray.word (afterSeed x v).words i = 0 ↔ x.argl = -(BitVec.ofNat 64 (i + 1) * Rom.gamma) := by
  rw [word_afterSeed_of_lt x hi, if_neg hv, mix_eq_zero_iff, add_eq_zero_iff_eq_neg]

/-- R414: with two words or more, words 0 and 1 are not both 0, because GAMMA is not 0. -/
theorem exists_word_afterSeed_ne_zero (x : Xscore) {v : Variant} (hv : v.code.toNat ≠ 0) (hlen : 2 ≤ v.len) :
    ∃ i < v.len, StateArray.word (afterSeed x v).words i ≠ 0 := by
  by_contra! hzero
  have h0 := (word_afterSeed_eq_zero_iff x hv (by omega)).mp (hzero 0 (by omega))
  have h1 := (word_afterSeed_eq_zero_iff x hv (by omega)).mp (hzero 1 (by omega))
  exact absurd (h0.symm.trans h1) (by decide)

/-! ## SEED and NEXT -/

theorem code_of_variantOperand {n : Nat} {v : Variant} (h : variantOperand n = some v) : v.code.toNat = n := by
  unfold variantOperand Variant.ofNumber at h
  split at h
  case h_15 => cases h
  all_goals
    cases h
    rfl

theorem Variant.exists_code_eq {n : Nat} (hn : n < 14) : ∃ v : Variant, v.code.toNat = n := by
  have hsome : variantOperand n ≠ none := fun h => absurd (variantOperand_eq_none.mp h) (by omega)
  obtain ⟨v, hv⟩ := Option.ne_none_iff_exists'.mp hsome
  exact ⟨v, code_of_variantOperand hv⟩

theorem Variant.two_le_len {v : Variant} (hv : 3 ≤ v.code.toNat) : 2 ≤ v.len := by
  revert hv
  cases v <;> decide

theorem exec_seed_of_le {n : Nat} (hn : 14 ≤ n) (s : State) : exec (.seed n) s = cmdError s .badVariant := by
  simp only [exec, execSeed, variantOperand_eq_none.mpr hn]

/-- R503: NEXT on a seeded unit completes with the generator step. -/
theorem exec_next_of_seeded {s : State} (seeded : s.xs.seeded = true) :
    exec .next s = complete s (afterStep s.xs (generatorStep s.xs) (generatorStep s.xs).out) :=
  whenSeeded_of_seeded seeded _

theorem StateArray.setWord_eq_set (S : StateArray) {i : Nat} (hi : i < 64) (w : Word) :
    StateArray.setWord S i w = S.set i w hi := by
  simp [StateArray.setWord, Vector.setIfInBounds, Array.setIfInBounds, Vector.set, hi]

/-- R411, in the words of the state array. -/
theorem stepSplitMix64_eq (S : StateArray) (P : Cursor) :
    stepSplitMix64 S P = { words := S.set 0 (S[0] + Rom.gamma), cursor := P, out := mix (S[0] + Rom.gamma) } := by
  rw [stepSplitMix64, StateArray.word_eq_getElem S 0 (by decide), StateArray.setWord_eq_set S (by decide)]

end Sys2Proof.Machine
end

section
/-! PROOF. The statements of 41_splitmix64.md. -/

namespace Sys2Proof.Proofs

open Sys2Proof.Machine

/-- Settles O19: R412, R413, R502: the word a SEED writes at each index, and the error procedure for 14 and 15. -/
theorem seedExpandsOperand : Obligations.SeedExpandsOperand := by
  refine ⟨fun n s hn => ?_, fun n s hn _ => ?_⟩
  · obtain ⟨v, rfl⟩ := Variant.exists_code_eq hn
    exact ⟨v, (afterSeed s.xs v).words, rfl, exec_seed_code s v, fun i hi => word_afterSeed_of_lt s.xs hi,
      fun i hi => word_afterSeed_of_le s.xs hi⟩
  · exact (exec_seed_of_le hn s).trans (cmdError_eq s .badVariant)

/-- Settles O37: R414: xorshifts and multiplications by odd constants are bijections that keep 0. -/
theorem mixIsBijective : Obligations.MixIsBijective := ⟨mix_bijective, mix_eq_zero_iff⟩

/-- Settles O38: R414: word i is 0 for exactly one seed, a different one for words 0 and 1. -/
theorem seedIsAllZeroForOneSeedOnly : Obligations.SeedIsAllZeroForOneSeedOnly := by
  intro n s hn
  obtain ⟨v, rfl⟩ := Variant.exists_code_eq hn
  refine ⟨_, exec_seed_code s v, fun h3 => ?_, fun h12 => ?_⟩
  · have hv : v.code.toNat ≠ 0 := by omega
    exact exists_word_afterSeed_ne_zero s.xs hv (Variant.two_le_len h3)
  · have hv : v.code.toNat ≠ 0 := by omega
    exact word_afterSeed_eq_zero_iff s.xs hv v.len_pos

/-- Settles O20: R410. -/
theorem mixFormula : Obligations.MixFormula := ⟨rfl, fun _ => rfl⟩

/-- Settles O21: R411, R503: NEXT completes with the step of variant 0. -/
theorem nextSplitMix64 : Obligations.NextSplitMix64 := by
  intro s seeded hvar
  have hstep : generatorStep s.xs = stepSplitMix64 s.xs.words s.xs.cursor := by rw [generatorStep, hvar]; rfl
  rw [exec_next_of_seeded seeded, hstep, stepSplitMix64_eq]
  rfl

end Sys2Proof.Proofs
end

section
/-! PROOF. XorShift64* (42_xorshift64star.md). `perm64` is a composition of three xorshifts, each a bijection that keeps
0; both variants apply it once per step, variant 1 multiplying the word before it and variant 2 the word after it (R422). -/

namespace Sys2Proof.Machine

/-! ## The permutation (R420, R422) -/

/-- The difference of two words with the same xorshift equals its own shift up, so its lowest set bit has none to come
from. -/
theorem xorShiftLeft_injective {k : Nat} (hk : 0 < k) : Function.Injective (fun z : Word => z ^^^ (z <<< k)) := by
  intro x y (hxy : x ^^^ x <<< k = y ^^^ y <<< k)
  have hdiff : x ^^^ y = (x ^^^ y) <<< k := by
    refine BitVec.xor_eq_zero_iff.mp ?_
    calc x ^^^ y ^^^ (x ^^^ y) <<< k = (x ^^^ x <<< k) ^^^ (y ^^^ y <<< k) := by
          rw [BitVec.shiftLeft_xor_distrib]
          ac_rfl
      _ = 0#64 := by rw [hxy, BitVec.xor_self]
  have hbit : ∀ i, (x ^^^ y).getLsbD i = false := by
    intro i
    induction i using Nat.strong_induction_on with
    | _ i ih =>
      rw [hdiff, BitVec.getLsbD_shiftLeft]
      rcases Nat.lt_or_ge i k with hlt | hge
      · simp [hlt]
      · rw [ih (i - k) (by omega), Bool.and_false]
  exact BitVec.xor_eq_zero_iff.mp (BitVec.eq_of_getLsbD_eq fun i _ => by rw [hbit i, BitVec.getLsbD_zero])

theorem xorShiftLeft_bijective {k : Nat} (hk : 0 < k) : Function.Bijective (fun z : Word => z ^^^ (z <<< k)) :=
  Finite.injective_iff_bijective.mp (xorShiftLeft_injective hk)

theorem perm64_bijective : Function.Bijective perm64 := by
  have hfirst := xorShiftRight_bijective (k := 12) (by decide)
  have hsecond := xorShiftLeft_bijective (k := 25) (by decide)
  have hthird := xorShiftRight_bijective (k := 27) (by decide)
  exact hthird.comp (hsecond.comp hfirst)

theorem perm64_zero : perm64 0 = 0 := by decide

theorem perm64_eq_zero_iff (x : Word) : perm64 x = 0 ↔ x = 0 := perm64_bijective.injective.eq_iff' perm64_zero

/-! ## The steps (R420, R421) -/

variable (S : StateArray) (P : Cursor) (k : Nat)

/-- R420, in the words of the state array. -/
theorem stepXorShift64StarA_eq :
    stepXorShift64StarA S P = { words := S.set 0 (perm64 S[0]), cursor := P, out := S[0] * Rom.c64 } := by
  rw [stepXorShift64StarA, StateArray.word_eq_getElem S 0 (by decide), StateArray.setWord_eq_set S (by decide)]

/-- R421, in the words of the state array. -/
theorem stepXorShift64StarB_eq :
    stepXorShift64StarB S P = { words := S.set 0 (perm64 S[0]), cursor := P, out := perm64 S[0] * Rom.c64 } := by
  rw [stepXorShift64StarB, StateArray.word_eq_getElem S 0 (by decide), StateArray.setWord_eq_set S (by decide)]

/-- Each further step of variant 1 permutes word 0 once more. -/
theorem word_stepsFrom_xorShift64StarA_succ :
    StateArray.word (stepsFrom .xorShift64StarA S P (k + 1)).1 0
      = perm64 (StateArray.word (stepsFrom .xorShift64StarA S P k).1 0) :=
  StateArray.word_setWord_same _ 0 _ (by decide)

theorem word_stepsFrom_xorShift64StarA_ne_zero (hS : StateArray.word S 0 ≠ 0) :
    StateArray.word (stepsFrom .xorShift64StarA S P k).1 0 ≠ 0 := by
  induction k with
  | zero => exact hS
  | succ k ih =>
    rw [word_stepsFrom_xorShift64StarA_succ]
    exact mt (perm64_eq_zero_iff _).mp ih

/-- R422: the two steps differ in the output alone. -/
theorem stepsFrom_xorShift64StarA_eq : stepsFrom .xorShift64StarA S P k = stepsFrom .xorShift64StarB S P k := by
  induction k with
  | zero => rfl
  | succ k ih =>
    simp only [stepsFrom, ih]
    rfl

/-- R420: the output of variant 1 is word 0 before the step, times the constant. -/
theorem outputAfter_xorShift64StarA :
    outputAfter .xorShift64StarA S P k = StateArray.word (stepsFrom .xorShift64StarA S P k).1 0 * Rom.c64 := rfl

/-- R421: the output of variant 2 is the permuted word 0, times the constant. -/
theorem outputAfter_xorShift64StarB :
    outputAfter .xorShift64StarB S P k
      = perm64 (StateArray.word (stepsFrom .xorShift64StarB S P k).1 0) * Rom.c64 := rfl

end Sys2Proof.Machine
end

section
/-! PROOF. The statements of 42_xorshift64star.md. -/

namespace Sys2Proof.Proofs

open Sys2Proof.Machine

/-- Settles O40: R422: the word variant 2 multiplies is the one variant 1 multiplies a step later. -/
theorem xorShift64StarFormsAgree : Obligations.XorShift64StarFormsAgree := by
  intro S P k
  refine ⟨stepsFrom_xorShift64StarA_eq S P k, ?_⟩
  rw [outputAfter_xorShift64StarB, outputAfter_xorShift64StarA, word_stepsFrom_xorShift64StarA_succ,
    stepsFrom_xorShift64StarA_eq]

/-- Settles O41: R422: xorshifts are bijections that keep 0, so a non-zero word stays non-zero by induction on the
steps. -/
theorem perm64IsBijective : Obligations.Perm64IsBijective :=
  ⟨perm64_bijective, perm64_zero, word_stepsFrom_xorShift64StarA_ne_zero⟩

/-- Settles O22: R420, R421, R503: NEXT completes with the step of variant 1 or 2. -/
theorem nextXorShift64Star : Obligations.NextXorShift64Star := by
  intro s seeded
  refine ⟨fun hvar => ?_, fun hvar => ?_⟩
  · have hstep : generatorStep s.xs = stepXorShift64StarA s.xs.words s.xs.cursor := by rw [generatorStep, hvar]; rfl
    rw [exec_next_of_seeded seeded, hstep, stepXorShift64StarA_eq]
    rfl
  · have hstep : generatorStep s.xs = stepXorShift64StarB s.xs.words s.xs.cursor := by rw [generatorStep, hvar]; rfl
    rw [exec_next_of_seeded seeded, hstep, stepXorShift64StarB_eq]
    rfl

end Sys2Proof.Proofs
end

section
/-! PROOF. The 2-word variants (43_two_word.md). Their steps in the words of the state array: both words are written from
the old ones, in XorShift128+ for any shift pair and in XoroShiro128 for any counts below 64 (R430 to R434). -/

namespace Sys2Proof.Machine

/-- R503: NEXT on a seeded unit of variant v completes with the step of variant v. -/
theorem exec_next_of_var {s : State} {v : Variant} (seeded : s.xs.seeded = true) (hvar : s.xs.var = v) :
    exec .next s = complete s
      (afterStep s.xs (stepVar v s.xs.words s.xs.cursor) (stepVar v s.xs.words s.xs.cursor).out) := by
  subst hvar
  exact exec_next_of_seeded seeded

variable (S : StateArray) (P : Cursor)

/-- R431, R432: the formula's s1 is the old S[0] and its s0 the old S[1]. -/
theorem xorShift128Plus_eq (shiftA shiftB : Nat) :
    xorShift128Plus shiftA shiftB S P =
      let s1 := S[0] ^^^ (S[0] <<< 23)
      let n1 := s1 ^^^ S[1] ^^^ (s1 >>> shiftA) ^^^ (S[1] >>> shiftB)
      { words := (S.set 0 S[1]).set 1 n1, cursor := P, out := n1 + S[1] } := by
  rw [xorShift128Plus, StateArray.word_eq_getElem S 0 (by decide), StateArray.word_eq_getElem S 1 (by decide),
    StateArray.setWord_eq_set S (by decide), StateArray.setWord_eq_set _ (by decide)]

/-- R433, R434: the common update of XoroShiro128. -/
theorem xoroShiro128Update_eq {a c : Nat} (b : Nat) (ha : a < 64) (hc : c < 64) :
    xoroShiro128Update a b c S =
      let s1 := S[1] ^^^ S[0]
      (S.set 0 (S[0].rotateLeft a ^^^ s1 ^^^ (s1 <<< b))).set 1 (s1.rotateLeft c) := by
  rw [xoroShiro128Update, StateArray.word_eq_getElem S 0 (by decide), StateArray.word_eq_getElem S 1 (by decide),
    rotl_eq_rotateLeft _ ha, rotl_eq_rotateLeft _ hc,
    StateArray.setWord_eq_set S (by decide), StateArray.setWord_eq_set _ (by decide)]

theorem starStar_eq (x : Word) : starStar x = (x * 5).rotateLeft 7 * 9 := by
  rw [starStar, rotl_eq_rotateLeft _ (by decide)]

/-- R433: the output is the sum of the old words. -/
theorem stepXoroShiro128Plus_eq :
    stepXoroShiro128Plus S P =
      let s1 := S[1] ^^^ S[0]
      { words := (S.set 0 (S[0].rotateLeft 55 ^^^ s1 ^^^ (s1 <<< 14))).set 1 (s1.rotateLeft 36)
        cursor := P
        out := S[0] + S[1] } := by
  rw [stepXoroShiro128Plus, xoroShiro128Update_eq S 14 (by decide) (by decide),
    StateArray.word_eq_getElem S 0 (by decide), StateArray.word_eq_getElem S 1 (by decide)]

/-- R434: the output is the scrambled old S[0]. -/
theorem stepXoroShiro128StarStar_eq :
    stepXoroShiro128StarStar S P =
      let s1 := S[1] ^^^ S[0]
      { words := (S.set 0 (S[0].rotateLeft 24 ^^^ s1 ^^^ (s1 <<< 16))).set 1 (s1.rotateLeft 37)
        cursor := P
        out := (S[0] * 5).rotateLeft 7 * 9 } := by
  rw [stepXoroShiro128StarStar, xoroShiro128Update_eq S 16 (by decide) (by decide),
    StateArray.word_eq_getElem S 0 (by decide), starStar_eq]

end Sys2Proof.Machine
end

section
/-! PROOF. The statements of 43_two_word.md. -/

namespace Sys2Proof.Proofs

open Sys2Proof.Machine

/-- Settles O23: R431, R432, R503: variants 3 and 4 are the XorShift128+ step with their shift pairs. -/
theorem nextXorShift128Plus : Obligations.NextXorShift128Plus := by
  intro s shiftA shiftB seeded hpair
  rcases hpair with ⟨hvar, rfl, rfl⟩ | ⟨hvar, rfl, rfl⟩
  · rw [exec_next_of_var seeded hvar, stepVar, stepXorShift128PlusA, xorShift128Plus_eq]
    rfl
  · rw [exec_next_of_var seeded hvar, stepVar, stepXorShift128PlusB, xorShift128Plus_eq]
    rfl

/-- Settles O24: R433, R503: NEXT completes with the step of variant 5. -/
theorem nextXoroShiro128Plus : Obligations.NextXoroShiro128Plus := by
  intro s seeded hvar
  rw [exec_next_of_var seeded hvar, stepVar, stepXoroShiro128Plus_eq]
  rfl

/-- Settles O25: R434, R503: NEXT completes with the step of variant 6. -/
theorem nextXoroShiro128StarStar : Obligations.NextXoroShiro128StarStar := by
  intro s seeded hvar
  rw [exec_next_of_var seeded hvar, stepVar, stepXoroShiro128StarStar_eq]
  rfl

end Sys2Proof.Proofs
end

section
/-! PROOF. The 4-word and 8-word variants (44_four_eight_word.md). Their steps in the words of the state array: the
update's statements run in order, and each new word and each output is written out in the old words (R440 to R444). -/

namespace Sys2Proof.Machine

/-- A list of words is stored one word at a time, the first word first. -/
theorem StateArray.setWords_cons_eq_set (S : StateArray) {i : Nat} (hi : i < 64) (w : Word) (ws : List Word) :
    StateArray.setWords S i (w :: ws) = StateArray.setWords (S.set i w hi) (i + 1) ws := by
  rw [StateArray.setWords, StateArray.setWord_eq_set S hi]

@[simp] theorem StateArray.setWords_nil (S : StateArray) (i : Nat) : StateArray.setWords S i [] = S := rfl

variable (S : StateArray) (P : Cursor)

/-- R440: the common update of the 256-bit variants. -/
theorem upd256_eq :
    upd256 S =
      (((S.set 0 (S[0] ^^^ (S[3] ^^^ S[1]))).set 1 (S[1] ^^^ (S[2] ^^^ S[0]))).set 2
        (S[2] ^^^ S[0] ^^^ (S[1] <<< 17))).set 3 ((S[3] ^^^ S[1]).rotateLeft 45) := by
  simp [upd256, Rom.xoshiro256, StateArray.word_eq_getElem, rotl_eq_rotateLeft, StateArray.setWords_cons_eq_set]

/-- R444: the update of the 512-bit variant. -/
theorem upd512_eq :
    upd512 S =
      (((((((S.set 0 (S[0] ^^^ S[6])).set 1 (S[1] ^^^ (S[2] ^^^ S[0]))).set 2 (S[2] ^^^ S[0])).set 3
        (S[3] ^^^ S[4])).set 4 (S[4] ^^^ (S[5] ^^^ S[1]))).set 5 (S[5] ^^^ S[1])).set 6
        (S[6] ^^^ (S[7] ^^^ S[3]) ^^^ (S[1] <<< 11))).set 7 ((S[7] ^^^ S[3]).rotateLeft 21) := by
  simp [upd512, Rom.xoshiro512, StateArray.word_eq_getElem, rotl_eq_rotateLeft, StateArray.setWords_cons_eq_set]

/-- R441: the output is the sum of the old S[0] and S[3]. -/
theorem stepXoroShiro256Plus_eq :
    stepXoroShiro256Plus S P = { words := upd256 S, cursor := P, out := S[0] + S[3] } := by
  rw [stepXoroShiro256Plus, StateArray.word_eq_getElem S 0 (by decide), StateArray.word_eq_getElem S 3 (by decide)]

/-- R442: the output is that sum rotated by 23, plus the old S[0]. -/
theorem stepXoroShiro256PlusPlus_eq :
    stepXoroShiro256PlusPlus S P =
      { words := upd256 S, cursor := P, out := (S[0] + S[3]).rotateLeft 23 + S[0] } := by
  rw [stepXoroShiro256PlusPlus, StateArray.word_eq_getElem S 0 (by decide), StateArray.word_eq_getElem S 3 (by decide),
    rotl_eq_rotateLeft _ (by decide), Rom.plusPlusRotate]

/-- R443: the output is the scrambled old S[1]. -/
theorem stepXoroShiro256StarStar_eq :
    stepXoroShiro256StarStar S P = { words := upd256 S, cursor := P, out := (S[1] * 5).rotateLeft 7 * 9 } := by
  rw [stepXoroShiro256StarStar, StateArray.word_eq_getElem S 1 (by decide), starStar_eq]

/-- R444: the output is the scrambled old S[1]. -/
theorem stepXoroShiro512StarStar_eq :
    stepXoroShiro512StarStar S P = { words := upd512 S, cursor := P, out := (S[1] * 5).rotateLeft 7 * 9 } := by
  rw [stepXoroShiro512StarStar, StateArray.word_eq_getElem S 1 (by decide), starStar_eq]

end Sys2Proof.Machine
end

section
/-! PROOF. The statements of 44_four_eight_word.md. -/

namespace Sys2Proof.Proofs

open Sys2Proof.Machine

/-- Settles O26: R440 to R443, R503: NEXT completes with the step of variant 7, 8 or 9; all three run one update. -/
theorem nextXoroShiro256 : Obligations.NextXoroShiro256 := by
  intro s out seeded s0 s1 s2 s3 hout
  rcases hout with ⟨hvar, rfl⟩ | ⟨hvar, rfl⟩ | ⟨hvar, rfl⟩
  · rw [exec_next_of_var seeded hvar, stepVar, stepXoroShiro256Plus_eq, upd256_eq]
    rfl
  · rw [exec_next_of_var seeded hvar, stepVar, stepXoroShiro256PlusPlus_eq, upd256_eq]
    rfl
  · rw [exec_next_of_var seeded hvar, stepVar, stepXoroShiro256StarStar_eq, upd256_eq]
    rfl

/-- Settles O27: R444, R503: NEXT completes with the step of variant 10. -/
theorem nextXoroShiro512StarStar : Obligations.NextXoroShiro512StarStar := by
  intro s seeded hvar
  rw [exec_next_of_var seeded hvar, stepVar, stepXoroShiro512StarStar_eq, upd512_eq]
  rfl

end Sys2Proof.Proofs
end

section
/-! PROOF. The rotating-buffer variants (45_rotating_buffer.md). Variants 11, 12 and 13 run one step with their own N, shift
triple and multiplier; NEXT on any variant with such a step, in the words of the state array (R450). -/

namespace Sys2Proof.Machine

/-- R450, R503: NEXT on a seeded unit whose variant runs the rotating-buffer step with constants k. The cursor's 6 bits
hold `(P + 1) mod N` for the N of any variant, so the word written is the one the new cursor names. -/
theorem exec_next_of_stepRotating {s : State} {v : Variant} {k : RotatingConstants} (seeded : s.xs.seeded = true)
    (hvar : s.xs.var = v) (hstep : stepVar v = stepRotating v.len k) :
    exec .next s =
      let pn := (s.xs.cursor.toNat + 1) % v.len
      let s0 := StateArray.word s.xs.words s.xs.cursor.toNat
      let s1 := StateArray.word s.xs.words pn
      let y := s1 ^^^ (s1 <<< k.a)
      let w := (s0 ^^^ (s0 >>> k.c)) ^^^ (y ^^^ (y >>> k.b))
      .next { s with xs := { s.xs with words := s.xs.words.setIfInBounds pn w
                                       cursor := BitVec.ofNat 6 pn
                                       res := w * k.mult
                                       pend := false } } := by
  rw [exec_next_of_var seeded hvar, hstep, stepRotating, toNat_nextCursor]
  rfl

end Sys2Proof.Machine
end

section
/-! PROOF. The statement of 45_rotating_buffer.md. -/

namespace Sys2Proof.Proofs

open Sys2Proof.Machine

/-- Settles O28: R450 to R453, R503: each of the three variants runs the common step with the constants of its ROM entry.
The premise `P < N` is not needed: the step follows its formula for any cursor (log 18). -/
theorem nextRotatingBuffer : Obligations.NextRotatingBuffer := by
  intro s n a b c mult seeded hrow _
  rcases hrow with ⟨hvar, ⟨⟩⟩ | ⟨hvar, ⟨⟩⟩ | ⟨hvar, ⟨⟩⟩
  · exact exec_next_of_stepRotating (k := Rom.xorShift1024Star) seeded hvar rfl
  · exact exec_next_of_stepRotating (k := Rom.xorShift1024StarPhi) seeded hvar rfl
  · exact exec_next_of_stepRotating (k := Rom.xorShift4096Star) seeded hvar rfl

end Sys2Proof.Proofs
end

section
/-! PROOF. The jump algorithm (46_jump.md R463). The scan's accumulator is `polynomialOfSteps` of the bits scanned so
far, and the write-back stores it in cursor-relative coordinates: `jumpAlg` applies the polynomial to the step
(R462). -/

namespace Sys2Proof.Machine

/-- R460: the variants with a jump are VAR 3 to 12. -/
theorem Variant.hasJump_eq_true_iff (v : Variant) : v.hasJump = true ↔ 3 ≤ v.code.toNat ∧ v.code.toNat ≤ 12 := by
  cases v <;> decide

/-- R465: JUMP on a seeded unit whose variant has a polynomial; P in [0, N) stays. -/
theorem exec_jump_of_hasJump {s : State} (seeded : s.xs.seeded = true) (hv : s.xs.var.hasJump = true)
    (hP : s.xs.cursor.toNat < s.xs.var.len) :
    exec .jump s
      = complete s { s.xs with words := (jumpAlg s.xs.var (Rom.jump s.xs.var) s.xs.words s.xs.cursor).1 } := by
  have hexec : exec .jump s = whenSeeded s _ := rfl
  rw [hexec, whenSeeded_of_seeded seeded, if_pos hv]
  simp only [jumpAlg_romJump_cursor hv s.xs.words hP]

theorem exec_jump_of_noJump {s : State} (seeded : s.xs.seeded = true) (hv : s.xs.var.hasJump = false) :
    exec .jump s = cmdError s .noJump := by
  have hexec : exec .jump s = whenSeeded s _ := rfl
  rw [hexec, whenSeeded_of_seeded seeded, hv]
  rfl

variable (v : Variant) (q : List Word) (S : StateArray) {P : Cursor}

/-- R463: the bits of a polynomial are scanned from word 0 up, and in each word from bit 0 up. -/
theorem getElem_polynomialBits {k : Nat} (hk : k < (polynomialBits q).length) :
    (polynomialBits q)[k] = (q.getD (k / 64) 0).getLsbD (k % 64) := by
  induction q generalizing k with
  | nil => simp at hk
  | cons w q ih =>
    have hcons : polynomialBits (w :: q) = (List.range 64).map (fun b => w.getLsbD b) ++ polynomialBits q := rfl
    simp only [hcons]
    rcases Nat.lt_or_ge k 64 with hlt | hge
    · rw [List.getElem_append_left (by simpa using hlt)]
      simp [Nat.div_eq_of_lt hlt, Nat.mod_eq_of_lt hlt]
    · rw [List.getElem_append_right (by simpa using hge), ih]
      obtain ⟨m, rfl⟩ := Nat.exists_eq_add_of_le hge
      simp

/-- R463: one bit of the scan on an accumulator g: a 1 adds the relative words of the state, and the state steps. -/
theorem jumpBit_map (b : Bool) (g : Nat → Word) (P : Cursor) :
    jumpBit v b { acc := (List.range v.len).map g, words := S, cursor := P }
      = { acc := (List.range v.len).map fun j => g j ^^^ if b then relativeWord v S P j else 0
          words := (stepVar v S P).words
          cursor := (stepVar v S P).cursor } := by
  cases b with
  | false => simp [jumpBit]
  | true =>
    rw [jumpBit, if_pos rfl, jumpAccumulate, JumpScan.mk.injEq]
    refine ⟨?_, rfl, rfl⟩
    apply List.ext_getElem <;> simp [relativeWord]

/-- The scan after its first k bits: each accumulator word is the polynomial's first k terms. -/
theorem foldl_jumpBit_take {k : Nat} (hk : k ≤ (polynomialBits q).length) :
    ((polynomialBits q).take k).foldl (fun J b => jumpBit v b J)
        { acc := List.replicate v.len 0, words := S, cursor := P }
      = { acc := (List.range v.len).map fun j => polynomialOfSteps v q S P j k
          words := (stepsFrom v S P k).1
          cursor := (stepsFrom v S P k).2 } := by
  induction k with
  | zero => simp [polynomialOfSteps, stepsFrom, List.map_const']
  | succ k ih =>
    rw [← List.take_concat_get' _ _ (Nat.lt_of_succ_le hk), List.foldl_append, ih (by omega), List.foldl_cons,
      List.foldl_nil, jumpBit_map, getElem_polynomialBits q (Nat.lt_of_succ_le hk)]
    rfl

theorem jumpScan_eq :
    jumpScan v q S P
      = { acc := (List.range v.len).map (fun j => polynomialOfSteps v q S P j (64 * q.length))
          words := (stepsFrom v S P (64 * q.length)).1
          cursor := (stepsFrom v S P (64 * q.length)).2 } := by
  rw [← length_polynomialBits, ← foldl_jumpBit_take v q S (Nat.le_refl _), List.take_length, jumpScan]

/-! ## Relative words -/

variable {v}

theorem add_cursor_mod_inj {j k n p : Nat} (hj : j < n) (hk : k < n) : (j + p) % n = (k + p) % n ↔ j = k := by
  refine ⟨fun h => ?_, fun h => h ▸ rfl⟩
  have hmod : j ≡ k [MOD n] := Nat.ModEq.add_right_cancel' p h
  exact hmod.eq_of_lt_of_lt hj hk

theorem add_cursor_mod_lt (v : Variant) (j p : Nat) : (j + p) % v.len < v.len := Nat.mod_lt _ v.len_pos

theorem relativeWord_setWord {j k : Nat} (hj : j < v.len) (hk : k < v.len) (w : Word) :
    relativeWord v (StateArray.setWord S ((k + P.toNat) % v.len) w) P j
      = if j = k then w else relativeWord v S P j := by
  rw [relativeWord, StateArray.word_setWord _ _ _ _ ((add_cursor_mod_lt v k _).trans_le v.len_le)]
  simp only [add_cursor_mod_inj hk hj, eq_comm (a := k), relativeWord]

/-- R463: the write-back stores the accumulator at the cursor-relative offsets. -/
theorem relativeWord_jumpWriteBack (acc : List Word) {k j : Nat} (hacc : k + acc.length ≤ v.len) (hj : j < v.len) :
    relativeWord v (jumpWriteBack v.len P S k acc) P j
      = if k ≤ j ∧ j < k + acc.length then acc.getD (j - k) 0 else relativeWord v S P j := by
  induction acc generalizing S k with
  | nil => rw [if_neg (by simp)]; rfl
  | cons a acc ih =>
    rw [List.length_cons] at hacc ⊢
    rw [jumpWriteBack, ih _ (by omega), relativeWord_setWord S hj (by omega)]
    rcases Nat.lt_trichotomy j k with hlt | rfl | hgt
    · rw [if_neg (by omega), if_neg (by omega), if_neg (by omega)]
    · simp
    · obtain ⟨m, rfl⟩ := Nat.exists_eq_add_of_lt hgt
      rw [show k + m + 1 - (k + 1) = m by omega, show k + m + 1 - k = m + 1 by omega,
        if_neg (show ¬k + m + 1 = k by omega), List.getD_cons_succ]
      exact if_congr (by omega) rfl rfl

theorem jumpWriteBack_word_of_le (v : Variant) (acc : List Word) (k : Nat) {i : Nat} (hi : v.len ≤ i) :
    StateArray.word (jumpWriteBack v.len P S k acc) i = StateArray.word S i := by
  induction acc generalizing S k with
  | nil => rfl
  | cons a acc ih =>
    have hlt := add_cursor_mod_lt v k P.toNat
    rw [jumpWriteBack, ih, StateArray.word_setWord_ne _ _ _ _ (by omega)]

theorem stepsFrom_word_of_le (v : Variant) (P : Cursor) (k : Nat) {i : Nat} (hi : v.len ≤ i) :
    StateArray.word (stepsFrom v S P k).1 i = StateArray.word S i := by
  induction k with
  | zero => rfl
  | succ k ih => rw [stepsFrom, stepVar_word_of_le _ _ _ _ hi, ih]

/-! ## The jump -/

/-- R462, R463: JUMP leaves the ROM polynomial applied to the step map, in relative coordinates. -/
theorem relativeWord_jumpAlg (hv : v.hasJump = true) (hP : P.toNat < v.len) {j : Nat} (hj : j < v.len) :
    relativeWord v (jumpAlg v (Rom.jump v) S P).1 P j
      = polynomialOfSteps v (Rom.jump v) S P j (64 * v.len) := by
  have hcursor : (jumpScan v (Rom.jump v) S P).cursor = P := jumpAlg_romJump_cursor hv S hP
  rw [jumpAlg, hcursor, relativeWord_jumpWriteBack _ _ (by simp [jumpScan_eq]) hj, jumpScan_eq, length_romJump hv]
  simp [hj]

theorem jumpAlg_word_of_le (v : Variant) (q : List Word) (S : StateArray) (P : Cursor) {i : Nat} (hi : v.len ≤ i) :
    StateArray.word (jumpAlg v q S P).1 i = StateArray.word S i := by
  rw [jumpAlg, jumpWriteBack_word_of_le _ v _ _ hi, jumpScan_eq, stepsFrom_word_of_le S v P _ hi]

end Sys2Proof.Machine
end

section
/-! PROOF. The step is linear over GF(2) (43_two_word.md R435, 44_four_eight_word.md R445, 45_rotating_buffer.md R454),
so a polynomial of the step commutes with it (46_jump.md R466). First in absolute words, for each variant but
SPLITMIX64; then in cursor-relative words, where a whole run is one map, `relativeStep`, over and over. -/

namespace Sys2Proof.Machine

/-! ## Linearity in absolute words -/

/-- S'' is the xor of S and S' in the words [0..n-1]. -/
def XorBelow (n : Nat) (S S' S'' : StateArray) : Prop :=
  ∀ i < n, StateArray.word S'' i = StateArray.word S i ^^^ StateArray.word S' i

variable {S S' S'' : StateArray}

theorem XorBelow.setWord {n : Nat} (h : XorBelow n S S' S'') {k : Nat} (hk : k < 64) {w w' w'' : Word}
    (hw : w'' = w ^^^ w') :
    XorBelow n (StateArray.setWord S k w) (StateArray.setWord S' k w') (StateArray.setWord S'' k w'') := by
  intro i hi
  simp only [StateArray.word_setWord _ k i _ hk]
  split
  · exact hw
  · exact h i hi

theorem XorBelow.setWords {n : Nat} (h : XorBelow n S S' S'') {ws ws' ws'' : List Word} (hlen : ws.length = ws'.length)
    {k : Nat} (hk : k + ws.length ≤ 64) (hws : ws'' = List.zipWith (· ^^^ ·) ws ws') :
    XorBelow n (StateArray.setWords S k ws) (StateArray.setWords S' k ws') (StateArray.setWords S'' k ws'') := by
  subst hws
  induction ws generalizing S S' S'' k ws' with
  | nil =>
    obtain rfl := List.length_eq_zero_iff.mp hlen.symm
    exact h
  | cons w ws ih =>
    obtain ⟨w', ws', rfl⟩ := List.exists_cons_of_length_eq_add_one hlen.symm
    rw [List.length_cons] at hk
    exact ih (h.setWord (by omega) rfl) (Nat.succ.inj hlen) (by omega)

theorem perm64_xor (x y : Word) : perm64 (x ^^^ y) = perm64 x ^^^ perm64 y := by
  simp only [perm64, BitVec.shiftLeft_xor_distrib, BitVec.ushiftRight_xor_distrib]
  grind only

theorem xorShift128Plus_xor (shiftA shiftB : Nat) (h : XorBelow 2 S S' S'') (P : Cursor) :
    XorBelow 2 (xorShift128Plus shiftA shiftB S P).words (xorShift128Plus shiftA shiftB S' P).words
      (xorShift128Plus shiftA shiftB S'' P).words := by
  have h0 := h 0 (by decide)
  have h1 := h 1 (by decide)
  refine (h.setWord (by decide) h1).setWord (by decide) ?_
  simp only [h0, h1, BitVec.shiftLeft_xor_distrib, BitVec.ushiftRight_xor_distrib]
  grind only

theorem xoroShiro128Update_xor {a c : Nat} (b : Nat) (ha : a < 64) (hc : c < 64) (h : XorBelow 2 S S' S'') :
    XorBelow 2 (xoroShiro128Update a b c S) (xoroShiro128Update a b c S') (xoroShiro128Update a b c S'') := by
  have h0 := h 0 (by decide)
  have h1 := h 1 (by decide)
  refine (h.setWord (by decide) ?_).setWord (by decide) ?_
  · simp only [h0, h1, BitVec.shiftLeft_xor_distrib, rotl_xor _ _ ha]
    grind only
  · rw [h0, h1, ← rotl_xor _ _ hc]
    grind only

theorem upd256_xor (h : XorBelow 4 S S' S'') : XorBelow 4 (upd256 S) (upd256 S') (upd256 S'') := by
  have h0 := h 0 (by decide)
  have h1 := h 1 (by decide)
  have h2 := h 2 (by decide)
  have h3 := h 3 (by decide)
  have hrot (x y : Word) := rotl_xor x y (k := Rom.xoshiro256.rotate) (by decide)
  simp only [upd256, h0, h1, h2, h3, BitVec.shiftLeft_xor_distrib, hrot]
  refine h.setWords (by simp) (by simp) ?_
  simp only [List.zipWith_cons_cons, List.zipWith_nil_left, List.cons.injEq, and_true]
  grind only

theorem upd512_xor (h : XorBelow 8 S S' S'') : XorBelow 8 (upd512 S) (upd512 S') (upd512 S'') := by
  have h0 := h 0 (by decide)
  have h1 := h 1 (by decide)
  have h2 := h 2 (by decide)
  have h3 := h 3 (by decide)
  have h4 := h 4 (by decide)
  have h5 := h 5 (by decide)
  have h6 := h 6 (by decide)
  have h7 := h 7 (by decide)
  have hrot (x y : Word) := rotl_xor x y (k := Rom.xoshiro512.rotate) (by decide)
  simp only [upd512, h0, h1, h2, h3, h4, h5, h6, h7, BitVec.shiftLeft_xor_distrib, hrot]
  refine h.setWords (by simp) (by simp) ?_
  simp only [List.zipWith_cons_cons, List.zipWith_nil_left, List.cons.injEq, and_true]
  grind only

theorem stepRotating_xor {n : Nat} (k : RotatingConstants) (h : XorBelow n S S' S'') {P : Cursor} (hP : P.toNat < n)
    (hnext : (nextCursor n P).toNat < n) :
    XorBelow n (stepRotating n k S P).words (stepRotating n k S' P).words (stepRotating n k S'' P).words := by
  refine h.setWord (nextCursor n P).isLt ?_
  simp only [h P.toNat hP, h (nextCursor n P).toNat hnext, BitVec.shiftLeft_xor_distrib,
    BitVec.ushiftRight_xor_distrib]
  grind only

/-- R435, R445, R454: the step is linear over GF(2) on every variant but SPLITMIX64. -/
theorem stepVar_xor {v : Variant} (hv : v ≠ .splitMix64) {P : Cursor} (hP : P.toNat < v.len)
    (h : XorBelow v.len S S' S'') :
    XorBelow v.len (stepVar v S P).words (stepVar v S' P).words (stepVar v S'' P).words := by
  have hnext := nextCursor_lt v P
  cases v with
  | splitMix64 => exact absurd rfl hv
  | xorShift64StarA | xorShift64StarB => exact h.setWord (by decide) (by rw [h 0 (by decide), perm64_xor])
  | xorShift128PlusA => exact xorShift128Plus_xor 18 5 h P
  | xorShift128PlusB => exact xorShift128Plus_xor 17 26 h P
  | xoroShiro128Plus => exact xoroShiro128Update_xor 14 (by decide) (by decide) h
  | xoroShiro128StarStar => exact xoroShiro128Update_xor 16 (by decide) (by decide) h
  | xoroShiro256Plus | xoroShiro256PlusPlus | xoroShiro256StarStar => exact upd256_xor h
  | xoroShiro512StarStar => exact upd512_xor h
  | xorShift1024Star => exact stepRotating_xor Rom.xorShift1024Star h hP hnext
  | xorShift1024StarPhi => exact stepRotating_xor Rom.xorShift1024StarPhi h hP hnext
  | xorShift4096Star => exact stepRotating_xor Rom.xorShift4096Star h hP hnext

/-! ## Relative words -/

/-- The state array whose words, relative to the cursor P, are x. -/
def ofRelative (v : Variant) (P : Cursor) (x : Nat → Word) : StateArray :=
  Vector.ofFn fun i : Fin 64 => x ((i + (v.len - P.toNat)) % v.len)

/-- The step as a map of relative words (R454). -/
def relativeStep (v : Variant) (P : Cursor) (x : Nat → Word) : Nat → Word :=
  relativeWord v (stepVar v (ofRelative v P x) P).words (stepVar v (ofRelative v P x) P).cursor

variable {v : Variant} {P : Cursor}

theorem ofRelative_congr {x y : Nat → Word} (h : ∀ j < v.len, x j = y j) : ofRelative v P x = ofRelative v P y := by
  simp only [ofRelative, h _ (Nat.mod_lt _ v.len_pos)]

theorem word_ofRelative (x : Nat → Word) {i : Nat} (hi : i < v.len) :
    StateArray.word (ofRelative v P x) i = x ((i + (v.len - P.toNat)) % v.len) := by
  rw [StateArray.word_eq_getElem _ _ (hi.trans_le v.len_le), ofRelative, Vector.getElem_ofFn]

theorem relativeWord_ofRelative (hP : P.toNat < v.len) (x : Nat → Word) (j : Nat) :
    relativeWord v (ofRelative v P x) P j = x (j % v.len) := by
  have hadd : j + P.toNat + (v.len - P.toNat) = j + v.len := by omega
  rw [relativeWord, word_ofRelative x (add_cursor_mod_lt v j _), Nat.mod_add_mod, hadd, Nat.add_mod_right]

theorem relativeWord_mod (v : Variant) (S : StateArray) (P : Cursor) (j : Nat) :
    relativeWord v S P (j % v.len) = relativeWord v S P j := by
  rw [relativeWord, relativeWord, Nat.mod_add_mod]

/-- Every word below N is a relative word. -/
theorem word_eq_relativeWord (S : StateArray) (hP : P.toNat < v.len) {i : Nat} (hi : i < v.len) :
    StateArray.word S i = relativeWord v S P ((i + (v.len - P.toNat)) % v.len) := by
  have hadd : i + (v.len - P.toNat) + P.toNat = i + v.len := by omega
  rw [relativeWord_mod, relativeWord, hadd, Nat.add_mod_right, Nat.mod_eq_of_lt hi]

/-- Two arrays with the same relative words and the same words from N up are the same array. -/
theorem StateArray.ext_relativeWords (hP : P.toNat < v.len)
    (hlt : ∀ j < v.len, relativeWord v S P j = relativeWord v S' P j)
    (hge : ∀ i, v.len ≤ i → StateArray.word S i = StateArray.word S' i) : S = S' := by
  refine StateArray.ext_words S S' fun i _ => ?_
  rcases Nat.lt_or_ge i v.len with hi | hi
  · rw [word_eq_relativeWord S hP hi, word_eq_relativeWord S' hP hi]
    exact hlt _ (Nat.mod_lt _ v.len_pos)
  · exact hge i hi

theorem stepVar_cursor_eq (v : Variant) (S S' : StateArray) (P : Cursor) :
    (stepVar v S P).cursor = (stepVar v S' P).cursor := by
  rw [stepVar_cursor, stepVar_cursor]

theorem relativeWord_stepVar (S : StateArray) (hP : P.toNat < v.len) :
    relativeWord v (stepVar v S P).words (stepVar v S P).cursor = relativeStep v P (relativeWord v S P) := by
  have hagree : AgreeBelow v.len S (ofRelative v P (relativeWord v S P)) := fun i hi => by
    rw [word_ofRelative _ hi, ← word_eq_relativeWord S hP hi]
  funext j
  rw [relativeStep, relativeWord, relativeWord, stepVar_cursor_eq v S (ofRelative v P (relativeWord v S P))]
  exact (stepVar_agree v hP hagree).2 _ (add_cursor_mod_lt v j _)

/-! ### The rotating buffer -/

/-- The word a rotating-buffer step writes, from the words at the old and the new cursor (R450). -/
def rotatingWord (k : RotatingConstants) (s0 s1 : Word) : Word :=
  let y := s1 ^^^ (s1 <<< k.a)
  (s0 ^^^ (s0 >>> k.c)) ^^^ (y ^^^ (y >>> k.b))

theorem stepRotating_words (n : Nat) (k : RotatingConstants) (S : StateArray) (P : Cursor) :
    (stepRotating n k S P).words
      = StateArray.setWord S (nextCursor n P).toNat
          (rotatingWord k (StateArray.word S P.toNat) (StateArray.word S (nextCursor n P).toNat)) := rfl

theorem exists_stepRotating_of_hasCursor (hv : v.hasCursor = true) : ∃ k, stepVar v = stepRotating v.len k := by
  cases v with
  | xorShift1024Star => exact ⟨Rom.xorShift1024Star, rfl⟩
  | xorShift1024StarPhi => exact ⟨Rom.xorShift1024StarPhi, rfl⟩
  | xorShift4096Star => exact ⟨Rom.xorShift4096Star, rfl⟩
  | _ => cases hv

/-- R454: the words move down by one place, and the new word comes in at place 0, where P cancels out. -/
theorem relativeStep_of_stepRotating {k : RotatingConstants} (hstep : stepVar v = stepRotating v.len k)
    (hP : P.toNat < v.len) (x : Nat → Word) (j : Nat) :
    relativeStep v P x j
      = if j % v.len = 0 then rotatingWord k (x 0) (x (1 % v.len)) else x ((j + 1) % v.len) := by
  have hnext := nextCursor_lt v P
  have hold : StateArray.word (ofRelative v P x) P.toNat = x 0 := by
    have h := relativeWord_ofRelative hP x 0
    rwa [relativeWord, Nat.zero_add, Nat.mod_eq_of_lt hP, Nat.zero_mod] at h
  have hnew (i : Nat) : StateArray.word (ofRelative v P x) ((i + (nextCursor v.len P).toNat) % v.len)
      = x ((i + 1) % v.len) := by
    rw [← relativeWord_ofRelative hP x, relativeWord, toNat_nextCursor, Nat.add_mod_mod, Nat.add_comm P.toNat,
      Nat.add_assoc]
  have hzero := hnew 0
  have hplace : (nextCursor v.len P).toNat = (j + (nextCursor v.len P).toNat) % v.len ↔ j % v.len = 0 := by
    have h := add_cursor_mod_inj (p := (nextCursor v.len P).toNat) (Nat.mod_lt j v.len_pos) v.len_pos
    rwa [Nat.mod_add_mod, Nat.zero_add, Nat.mod_eq_of_lt hnext, eq_comm] at h
  rw [Nat.zero_add, Nat.mod_eq_of_lt hnext] at hzero
  have hcursor : (stepRotating v.len k (ofRelative v P x) P).cursor = nextCursor v.len P := rfl
  rw [relativeStep, hstep, stepRotating_words, relativeWord, hcursor,
    StateArray.word_setWord _ _ _ _ (hnext.trans_le v.len_le), hold, hzero, hnew]
  exact if_congr hplace rfl rfl

/-- R454: P cancels out of the relative step of a rotating-buffer variant. -/
theorem relativeStep_eq_of_hasCursor (hv : v.hasCursor = true) {Q : Cursor} (hP : P.toNat < v.len)
    (hQ : Q.toNat < v.len) : relativeStep v P = relativeStep v Q := by
  obtain ⟨k, hstep⟩ := exists_stepRotating_of_hasCursor hv
  funext x j
  rw [relativeStep_of_stepRotating hstep hP, relativeStep_of_stepRotating hstep hQ]

/-! ### Steps and polynomials of steps -/

theorem stepsFrom_add (v : Variant) (S : StateArray) (P : Cursor) (m k : Nat) :
    stepsFrom v (stepsFrom v S P m).1 (stepsFrom v S P m).2 k = stepsFrom v S P (m + k) := by
  induction k with
  | zero => rfl
  | succ k ih => rw [stepsFrom, ih, ← Nat.add_assoc, stepsFrom]

/-- Each later step of a run is the relative step of its first cursor. -/
theorem relativeWord_stepsFrom_succ (S : StateArray) (hP : P.toNat < v.len) (k : Nat) :
    relativeWord v (stepsFrom v S P (k + 1)).1 (stepsFrom v S P (k + 1)).2
      = relativeStep v P (relativeWord v (stepsFrom v S P k).1 (stepsFrom v S P k).2) := by
  rw [stepsFrom, relativeWord_stepVar _ (stepsFrom_cursor_lt v S hP k)]
  cases hc : v.hasCursor with
  | false => rw [stepsFrom_cursor_of_noCursor hc]
  | true => rw [relativeStep_eq_of_hasCursor hc (stepsFrom_cursor_lt v S hP k) hP]

theorem relativeStep_xor (hv : v ≠ .splitMix64) (hP : P.toNat < v.len) (x y : Nat → Word) (j : Nat) :
    relativeStep v P (fun i => x i ^^^ y i) j = relativeStep v P x j ^^^ relativeStep v P y j := by
  have hxor : XorBelow v.len (ofRelative v P x) (ofRelative v P y) (ofRelative v P fun i => x i ^^^ y i) :=
    fun i hi => by simp only [word_ofRelative _ hi]
  simp only [relativeStep, relativeWord, stepVar_cursor]
  exact stepVar_xor hv hP hxor _ (add_cursor_mod_lt v j _)

theorem relativeStep_zero (hv : v ≠ .splitMix64) (hP : P.toNat < v.len) (j : Nat) :
    relativeStep v P (fun _ => 0) j = 0 := by
  have h := relativeStep_xor hv hP (fun _ => 0) (fun _ => 0) j
  simpa using h

/-- R466: a polynomial of the step, applied to the stepped state, is the step of the polynomial applied to the state. -/
theorem polynomialOfSteps_stepVar (hv : v ≠ .splitMix64) (q : List Word) (S : StateArray) (hP : P.toNat < v.len)
    (j n : Nat) :
    polynomialOfSteps v q (stepVar v S P).words (stepVar v S P).cursor j n
      = relativeStep v P (fun i => polynomialOfSteps v q S P i n) j := by
  induction n with
  | zero => exact (relativeStep_zero hv hP j).symm
  | succ n ih =>
    have hsteps := stepsFrom_add v S P 1 n
    rw [Nat.add_comm] at hsteps
    have hlater : relativeWord v (stepsFrom v (stepVar v S P).words (stepVar v S P).cursor n).1
        (stepsFrom v (stepVar v S P).words (stepVar v S P).cursor n).2
        = relativeStep v P (relativeWord v (stepsFrom v S P n).1 (stepsFrom v S P n).2) := by
      rw [← relativeWord_stepsFrom_succ S hP, ← hsteps]
      rfl
    simp only [polynomialOfSteps]
    rw [relativeStep_xor hv hP, ih, hlater]
    cases (q.getD (n / 64) 0).getLsbD (n % 64) with
    | false => simp only [Bool.false_eq_true, if_false, relativeStep_zero hv hP]
    | true => rfl

theorem ne_splitMix64_of_hasJump (hv : v.hasJump = true) : v ≠ .splitMix64 := by
  rintro rfl
  cases hv

/-- R466: JUMP and the step commute. -/
theorem stepVar_jumpAlg (hv : v.hasJump = true) (S : StateArray) (hP : P.toNat < v.len) :
    (stepVar v (jumpAlg v (Rom.jump v) S P).1 P).words
      = (jumpAlg v (Rom.jump v) (stepVar v S P).words (stepVar v S P).cursor).1 := by
  have hnext := stepVar_cursor_lt v S hP
  refine StateArray.ext_relativeWords hnext (fun j hj => ?_) (fun i hi => ?_)
  · rw [relativeWord_jumpAlg _ hv hnext hj, polynomialOfSteps_stepVar (ne_splitMix64_of_hasJump hv) _ _ hP,
      stepVar_cursor_eq v S (jumpAlg v (Rom.jump v) S P).1, relativeWord_stepVar _ hP, relativeStep, relativeStep,
      ofRelative_congr fun i hi => relativeWord_jumpAlg S hv hP hi]
  · rw [stepVar_word_of_le _ _ _ _ hi, jumpAlg_word_of_le _ _ _ _ hi, jumpAlg_word_of_le _ _ _ _ hi,
      stepVar_word_of_le _ _ _ _ hi]

end Sys2Proof.Machine
end

section
/-! PROOF. Polynomials over GF(2) modulo a monic polynomial of degree 128, as masks: bit i of a number is the coefficient
of x^i. On a sequence of bits that obeys the recurrence of the modulus, `powerMask R m` stands for 2^m places further on
(46_jump.md R462). `Bool` is here the field GF(2): `+` is xor, `*` is and. -/

namespace Sys2Proof.Machine

open Finset

/-- A polynomial's words as one mask, word 0 lowest (R462). -/
def polynomialMask : List Word → Nat
  | [] => 0
  | w :: q => w.toNat ||| polynomialMask q <<< 64

theorem testBit_polynomialMask (q : List Word) (k : Nat) :
    (polynomialMask q).testBit k = (q.getD (k / 64) 0).getLsbD (k % 64) := by
  induction q generalizing k with
  | nil => simp [polynomialMask]
  | cons w q ih =>
    rw [polynomialMask, Nat.testBit_or, Nat.testBit_shiftLeft, BitVec.testBit_toNat]
    rcases Nat.lt_or_ge k 64 with hlt | hge
    · simp [Nat.not_le.mpr hlt, Nat.div_eq_of_lt hlt, Nat.mod_eq_of_lt hlt]
    · obtain ⟨m, rfl⟩ := Nat.exists_eq_add_of_le hge
      simp [ih]

/-- The polynomial q, of degree below 128, applied to the shift of the sequence u, at place k. -/
def applyMask (u : Nat → Bool) (q k : Nat) : Bool := ∑ i ∈ range 128, q.testBit i * u (k + i)

/-- Times x, modulo x^128 + R. In `Nat`'s own functions, which the kernel evaluates at once. -/
def timesX (R q : Nat) : Nat :=
  Nat.xor (Nat.mod (Nat.mul 2 q) 0x100000000000000000000000000000000)
    (Nat.mul (Nat.mod (Nat.div q 0x80000000000000000000000000000000) 2) R)

/-- p times the lowest n terms of q, modulo x^128 + R, by Horner's rule. -/
def timesMask (R p q : Nat) : Nat → Nat
  | 0 => 0
  | n + 1 => Nat.xor (Nat.mul (Nat.mod q 2) p) (timesX R (timesMask R p (Nat.div q 2) n))

/-- x^(2^m) modulo x^128 + R, by squaring m times. -/
def powerMask (R : Nat) : Nat → Nat
  | 0 => 2
  | m + 1 => timesMask R (powerMask R m) (powerMask R m) 128

theorem timesX_eq (R q : Nat) : timesX R q = (2 * q % 2 ^ 128) ^^^ (q / 2 ^ 127 % 2 * R) := rfl

theorem timesMask_succ (R p q n : Nat) :
    timesMask R p q (n + 1) = (q / 2 ^ 0 % 2 * p) ^^^ timesX R (timesMask R p (q / 2) n) := by
  rw [pow_zero, Nat.div_one]
  rfl

theorem testBit_bit_mul (q n p i : Nat) : (q / 2 ^ n % 2 * p).testBit i = q.testBit n * p.testBit i := by
  rw [Nat.testBit_eq_decide_div_mod_eq (x := q)]
  rcases Nat.mod_two_eq_zero_or_one (q / 2 ^ n) with h | h <;> simp [h, Bool.mul_eq_and]

variable {u : Nat → Bool} {R : Nat}

theorem applyMask_xor (u : Nat → Bool) (p q k : Nat) : applyMask u (p ^^^ q) k = applyMask u p k + applyMask u q k := by
  simp only [applyMask, Nat.testBit_xor, ← Bool.add_eq_xor, add_mul, sum_add_distrib]

theorem applyMask_bit_mul (u : Nat → Bool) (q n p k : Nat) :
    applyMask u (q / 2 ^ n % 2 * p) k = q.testBit n * applyMask u p k := by
  simp only [applyMask, testBit_bit_mul, mul_assoc, mul_sum]

theorem applyMask_timesX (hu : ∀ k, u (k + 128) = applyMask u R k) (q k : Nat) :
    applyMask u (timesX R q) k = applyMask u q (k + 1) := by
  have hlow : applyMask u (2 * q % 2 ^ 128) k = ∑ i ∈ range 127, q.testBit i * u (k + (i + 1)) := by
    have hbit : ∀ i ∈ range 127, (2 * q % 2 ^ 128).testBit (i + 1) = q.testBit i := fun i hi => by
      rw [Nat.testBit_mod_two_pow, Nat.testBit_succ, Nat.mul_div_cancel_left q two_pos,
        decide_eq_true (Nat.succ_lt_succ (mem_range.mp hi)), Bool.true_and]
    have hzero : (2 * q % 2 ^ 128).testBit 0 = 0 := by simp [Bool.zero_eq_false]
    rw [applyMask, sum_range_succ' _ 127, hzero, zero_mul, add_zero]
    exact sum_congr rfl fun i hi => by rw [hbit i hi]
  have hhigh : applyMask u q (k + 1)
      = ∑ i ∈ range 127, q.testBit i * u (k + (i + 1)) + q.testBit 127 * u (k + 128) := by
    simp only [applyMask, sum_range_succ _ 127, Nat.add_assoc, Nat.add_comm 1]
  rw [timesX_eq, applyMask_xor, applyMask_bit_mul, hlow, hhigh, hu]

theorem applyMask_timesMask (hu : ∀ k, u (k + 128) = applyMask u R k) (p q n k : Nat) :
    applyMask u (timesMask R p q n) k = ∑ i ∈ range n, q.testBit i * applyMask u p (k + i) := by
  induction n generalizing q k with
  | zero => simp [timesMask, applyMask, ← Bool.zero_eq_false]
  | succ n ih =>
    rw [timesMask_succ, applyMask_xor, applyMask_bit_mul, applyMask_timesX hu, ih, sum_range_succ', add_comm]
    simp only [Nat.testBit_succ, Nat.add_assoc, Nat.add_comm 1, Nat.add_zero]

/-- Squaring x^(2^m) doubles the distance. -/
theorem applyMask_powerMask (hu : ∀ k, u (k + 128) = applyMask u R k) (m k : Nat) :
    applyMask u (powerMask R m) k = u (k + 2 ^ m) := by
  induction m generalizing k with
  | zero =>
    have hbit (i : Nat) : (powerMask R 0).testBit i = decide (1 = i) := Nat.testBit_two_pow (n := 1)
    rw [applyMask, sum_eq_single_of_mem 1 (by decide) fun i _ hi => ?_, hbit]
    · exact one_mul _
    · rw [hbit, decide_eq_false hi.symm]
      exact zero_mul _
  | succ m ih =>
    calc applyMask u (powerMask R (m + 1)) k
        = ∑ i ∈ range 128, (powerMask R m).testBit i * u (k + 2 ^ m + i) := by
          rw [powerMask, applyMask_timesMask hu]
          simp only [ih, Nat.add_right_comm]
      _ = u (k + 2 ^ m + 2 ^ m) := ih (k + 2 ^ m)
      _ = u (k + 2 ^ (m + 1)) := by rw [pow_succ, mul_two, Nat.add_assoc]

end Sys2Proof.Machine
end

section
/-! PROOF. The recurrence of each 2-word engine (43_two_word.md R435; the polynomials of 95_test_vectors.md 5.2), checked
by running the engine once for all states. A word that is linear in the 128 state bits is held as one number, its 64
rows of 128 coefficients side by side; a shift of the word by k bits is then a shift of the number by 128 k. -/

namespace Sys2Proof.Machine

open Finset

/-- X holds the word x as a linear function of the state bits s: bit 128 b + i of X is the coefficient of s i in bit b
of x. -/
def Sliced (s : Nat → Bool) (X : Nat) (x : Word) : Prop :=
  ∀ b, x.getLsbD b = ∑ i ∈ range 128, X.testBit (128 * b + i) * s i

/-- A sliced word shifted left by k bits. -/
def slicedShiftLeft (X k : Nat) : Nat := (X <<< (128 * k)) % 2 ^ (128 * 64)

/-- A sliced word shifted right by k bits. -/
def slicedShiftRight (X k : Nat) : Nat := X >>> (128 * k)

/-- A sliced word rotated left by k bits, for k in 1..63. -/
def slicedRotl (X k : Nat) : Nat := slicedShiftLeft X k ^^^ slicedShiftRight X (64 - k)

/-- The slices of n state bits, from bit `first` on, as the low n bits of a word. -/
def slicedBits (first : Nat) : Nat → Nat
  | 0 => 0
  | n + 1 => slicedBits first n ||| 2 ^ (128 * n + (first + n))

variable {s : Nat → Bool} {X Y : Nat} {x y : Word}

theorem Sliced.unique (hx : Sliced s X x) (hy : Sliced s X y) : x = y :=
  BitVec.eq_of_getLsbD_eq fun b _ => by rw [hx b, hy b]

theorem sliced_zero (s : Nat → Bool) : Sliced s 0 0 := fun b => by simp [← Bool.zero_eq_false]

theorem Sliced.xor (hx : Sliced s X x) (hy : Sliced s Y y) : Sliced s (X ^^^ Y) (x ^^^ y) := fun b => by
  simp only [BitVec.getLsbD_xor, Nat.testBit_xor, ← Bool.add_eq_xor, add_mul, sum_add_distrib, hx b, hy b]

theorem Sliced.shiftRight (hx : Sliced s X x) (k : Nat) : Sliced s (slicedShiftRight X k) (x >>> k) := fun b => by
  simp only [BitVec.getLsbD_ushiftRight, hx (k + b), slicedShiftRight, Nat.testBit_shiftRight, Nat.mul_add,
    Nat.add_assoc]

theorem Sliced.shiftLeft (hx : Sliced s X x) (k : Nat) : Sliced s (slicedShiftLeft X k) (x <<< k) := fun b => by
  have hbit : ∀ i ∈ range 128, (slicedShiftLeft X k).testBit (128 * b + i)
      = ((decide (b < 64) && !decide (b < k)) && X.testBit (128 * (b - k) + i)) := fun i hi => by
    rw [mem_range] at hi
    have hwidth : 128 * b + i < 128 * 64 ↔ b < 64 := by omega
    rw [slicedShiftLeft, Nat.testBit_mod_two_pow, Nat.testBit_shiftLeft, decide_eq_decide.mpr hwidth, Bool.and_assoc]
    rcases Nat.lt_or_ge b k with hlt | hge
    · rw [decide_eq_false (show ¬128 * b + i ≥ 128 * k by omega), decide_eq_true hlt]
      rfl
    · rw [decide_eq_true (show 128 * b + i ≥ 128 * k by omega), decide_eq_false (Nat.not_lt.mpr hge),
        show 128 * b + i - 128 * k = 128 * (b - k) + i by omega]
      rfl
  rw [sum_congr rfl fun i hi => by rw [hbit i hi], BitVec.getLsbD_shiftLeft, hx (b - k)]
  simp only [← Bool.mul_eq_and, mul_assoc, mul_sum]

theorem rotl_eq_xor (x : Word) {k : Nat} (h0 : 0 < k) : rotl x k = (x <<< k) ^^^ (x >>> (64 - k)) := by
  rw [rotl, if_neg h0.ne']
  apply BitVec.eq_of_getLsbD_eq
  intro j hj
  rw [BitVec.getLsbD_or, BitVec.getLsbD_xor, BitVec.getLsbD_shiftLeft, BitVec.getLsbD_ushiftRight]
  rcases Nat.lt_or_ge j k with hlt | hge
  · simp [hlt]
  · rw [BitVec.getLsbD_of_ge x (64 - k + j) (by omega), Bool.or_false, Bool.xor_false]

theorem Sliced.rotl (hx : Sliced s X x) {k : Nat} (h0 : 0 < k) : Sliced s (slicedRotl X k) (rotl x k) := by
  rw [rotl_eq_xor x h0]
  exact (hx.shiftLeft k).xor (hx.shiftRight (64 - k))

theorem testBit_slicedBits (first n b : Nat) (hn : first + n ≤ 128) {i : Nat} (hi : i < 128) :
    (slicedBits first n).testBit (128 * b + i) = decide (b < n ∧ first + b = i) := by
  induction n with
  | zero => simp [slicedBits]
  | succ n ih =>
    rw [slicedBits, Nat.testBit_or, ih (by omega), Nat.testBit_two_pow, ← Bool.decide_or]
    exact decide_eq_decide.mpr (by omega)

theorem sliced_slicedBits (first : Nat) (hfirst : first + 64 ≤ 128) (hx : ∀ b < 64, s (first + b) = x.getLsbD b) :
    Sliced s (slicedBits first 64) x := fun b => by
  rcases Nat.lt_or_ge b 64 with hb | hb
  · have hbit : ∀ i ∈ range 128, (slicedBits first 64).testBit (128 * b + i) = decide (first + b = i) := fun i hi => by
      rw [testBit_slicedBits first 64 b hfirst (mem_range.mp hi)]
      simp [hb]
    have hmem : first + b ∈ range 128 := mem_range.mpr (by omega)
    rw [sum_eq_single_of_mem (first + b) hmem fun i hi hne => ?_, hbit _ hmem, hx b hb]
    · simp [Bool.mul_eq_and]
    · rw [hbit i hi, decide_eq_false hne.symm]
      exact zero_mul _
  · rw [BitVec.getLsbD_of_ge _ _ hb]
    refine (sum_eq_zero fun i hi => ?_).symm
    rw [testBit_slicedBits first 64 b hfirst (mem_range.mp hi), decide_eq_false (by omega)]
    exact zero_mul _

/-- Bit i of the 128 state bits, S[0] lowest. -/
def stateBit (S : StateArray) (i : Nat) : Bool :=
  if i < 64 then (StateArray.word S 0).getLsbD i else (StateArray.word S 1).getLsbD (i - 64)

/-! ## The two engines on sliced words -/

/-- `xorShift128Plus` on sliced words (R431, R432). -/
def slicedXorShift128Plus (shiftA shiftB X Y : Nat) : Nat × Nat :=
  let Z := X ^^^ slicedShiftLeft X 23
  (Y, Z ^^^ Y ^^^ slicedShiftRight Z shiftA ^^^ slicedShiftRight Y shiftB)

/-- `xoroShiro128Update` on sliced words (R433, R434). -/
def slicedXoroShiro128 (a b c X Y : Nat) : Nat × Nat :=
  let Z := Y ^^^ X
  (slicedRotl X a ^^^ Z ^^^ slicedShiftLeft Z b, slicedRotl Z c)

/-- The function f steps sliced words as variant v steps S[0] and S[1]. -/
def SlicesStep (v : Variant) (f : Nat → Nat → Nat × Nat) : Prop :=
  ∀ (s : Nat → Bool) (S : StateArray) (P : Cursor) (X Y : Nat),
    Sliced s X (StateArray.word S 0) → Sliced s Y (StateArray.word S 1) →
    Sliced s (f X Y).1 (StateArray.word (stepVar v S P).words 0)
      ∧ Sliced s (f X Y).2 (StateArray.word (stepVar v S P).words 1)

theorem sliced_xorShift128Plus (shiftA shiftB : Nat) {S : StateArray} (P : Cursor)
    (hX : Sliced s X (StateArray.word S 0)) (hY : Sliced s Y (StateArray.word S 1)) :
    Sliced s (slicedXorShift128Plus shiftA shiftB X Y).1 (StateArray.word (xorShift128Plus shiftA shiftB S P).words 0)
      ∧ Sliced s (slicedXorShift128Plus shiftA shiftB X Y).2
          (StateArray.word (xorShift128Plus shiftA shiftB S P).words 1) := by
  have hZ := hX.xor (hX.shiftLeft 23)
  simp only [xorShift128Plus, StateArray.word_setWord _ _ _ _ (show 1 < 64 by decide),
    StateArray.word_setWord _ _ _ _ (show 0 < 64 by decide)]
  exact ⟨hY, ((hZ.xor hY).xor (hZ.shiftRight shiftA)).xor (hY.shiftRight shiftB)⟩

theorem sliced_xoroShiro128Update {a c : Nat} (b : Nat) (ha : 0 < a) (hc : 0 < c) {S : StateArray}
    (hX : Sliced s X (StateArray.word S 0)) (hY : Sliced s Y (StateArray.word S 1)) :
    Sliced s (slicedXoroShiro128 a b c X Y).1 (StateArray.word (xoroShiro128Update a b c S) 0)
      ∧ Sliced s (slicedXoroShiro128 a b c X Y).2 (StateArray.word (xoroShiro128Update a b c S) 1) := by
  have hZ := hY.xor hX
  simp only [xoroShiro128Update, StateArray.word_setWord _ _ _ _ (show 1 < 64 by decide),
    StateArray.word_setWord _ _ _ _ (show 0 < 64 by decide)]
  exact ⟨((hX.rotl ha).xor hZ).xor (hZ.shiftLeft b), hZ.rotl hc⟩

theorem slicesStep_xorShift128PlusA : SlicesStep .xorShift128PlusA (slicedXorShift128Plus 18 5) :=
  fun _ _ P _ _ hX hY => sliced_xorShift128Plus 18 5 P hX hY

theorem slicesStep_xorShift128PlusB : SlicesStep .xorShift128PlusB (slicedXorShift128Plus 17 26) :=
  fun _ _ P _ _ hX hY => sliced_xorShift128Plus 17 26 P hX hY

theorem slicesStep_xoroShiro128Plus : SlicesStep .xoroShiro128Plus (slicedXoroShiro128 55 14 36) :=
  fun _ _ _ _ _ hX hY => sliced_xoroShiro128Update 14 (by decide) (by decide) hX hY

theorem slicesStep_xoroShiro128StarStar : SlicesStep .xoroShiro128StarStar (slicedXoroShiro128 24 16 37) :=
  fun _ _ _ _ _ hX hY => sliced_xoroShiro128Update 16 (by decide) (by decide) hX hY

/-! ## Their runs -/

/-- k steps of f from the 128 state bits themselves. -/
def slicedOrbit (f : Nat → Nat → Nat × Nat) : Nat → Nat × Nat
  | 0 => (slicedBits 0 64, slicedBits 64 64)
  | k + 1 => f (slicedOrbit f k).1 (slicedOrbit f k).2

/-- The xor of g 0 .. g (n-1) over the bits of R. -/
def slicedSum (g : Nat → Nat) (R : Nat) : Nat → Nat
  | 0 => 0
  | n + 1 => slicedSum g R n ^^^ if R.testBit n then g n else 0

/-- After 128 steps both words are what the polynomial R makes of the steps before: f annihilates x^128 + R. -/
abbrev SlicedRecurrence (f : Nat → Nat → Nat × Nat) (R : Nat) : Prop :=
  slicedSum (fun k => (slicedOrbit f k).1) R 128 = (slicedOrbit f 128).1
    ∧ slicedSum (fun k => (slicedOrbit f k).2) R 128 = (slicedOrbit f 128).2

variable {v : Variant} {f : Nat → Nat → Nat × Nat}

theorem relativeWord_zero (S : StateArray) {j : Nat} (hj : j < v.len) : relativeWord v S 0 j = StateArray.word S j :=
  congrArg (StateArray.word S) (Nat.mod_eq_of_lt hj)

theorem sliced_slicedOrbit (hf : SlicesStep v f) (S : StateArray) (P : Cursor) (k : Nat) :
    Sliced (stateBit S) (slicedOrbit f k).1 (StateArray.word (stepsFrom v S P k).1 0)
      ∧ Sliced (stateBit S) (slicedOrbit f k).2 (StateArray.word (stepsFrom v S P k).1 1) := by
  induction k with
  | zero =>
    exact ⟨sliced_slicedBits 0 (by decide) fun b hb => by rw [Nat.zero_add, stateBit, if_pos hb]; rfl,
      sliced_slicedBits 64 (by decide) fun b _ => by
        rw [stateBit, if_neg (by omega), Nat.add_sub_cancel_left]; rfl⟩
  | succ k ih => exact hf _ _ _ _ _ ih.1 ih.2

theorem sliced_slicedSum {S : StateArray} {P : Cursor} {g : Nat → Nat} {j : Nat}
    (hg : ∀ k, Sliced s (g k) (relativeWord v (stepsFrom v S P k).1 (stepsFrom v S P k).2 j)) (q : List Word)
    (n : Nat) :
    Sliced s (slicedSum g (polynomialMask q) n) (polynomialOfSteps v q S P j n) := by
  induction n with
  | zero => exact sliced_zero s
  | succ n ih =>
    rw [slicedSum, polynomialOfSteps, testBit_polynomialMask]
    refine ih.xor ?_
    split
    · exact hg n
    · exact sliced_zero s

/-- The recurrence on sliced words is the recurrence of every state: T^128 is the polynomial R of T. -/
theorem polynomialOfSteps_of_slicedRecurrence (hlen : v.len = 2) (hc : v.hasCursor = false) (hf : SlicesStep v f)
    {R : List Word} (hR : SlicedRecurrence f (polynomialMask R)) (S : StateArray) {j : Nat} (hj : j < 2) :
    polynomialOfSteps v R S 0 j 128 = StateArray.word (stepsFrom v S 0 128).1 j := by
  have hword (k i : Nat) (hi : i < 2) : relativeWord v (stepsFrom v S 0 k).1 (stepsFrom v S 0 k).2 i
      = StateArray.word (stepsFrom v S 0 k).1 i := by
    rw [stepsFrom_cursor_of_noCursor hc, relativeWord_zero _ (hlen ▸ hi)]
  have horbit := sliced_slicedOrbit hf S 0
  obtain ⟨hR0, hR1⟩ := hR
  obtain rfl | rfl : j = 0 ∨ j = 1 := by omega
  · have hsum := sliced_slicedSum (fun k => hword k 0 hj ▸ (horbit k).1) R 128
    exact (hR0 ▸ hsum).unique (horbit 128).1
  · have hsum := sliced_slicedSum (fun k => hword k 1 hj ▸ (horbit k).2) R 128
    exact (hR1 ▸ hsum).unique (horbit 128).2

/-! ## The jump of the 2-word engines -/

theorem getLsbD_polynomialOfSteps (v : Variant) (q : List Word) (S : StateArray) (P : Cursor) (j n b : Nat) :
    (polynomialOfSteps v q S P j n).getLsbD b
      = ∑ i ∈ range n, (polynomialMask q).testBit i
          * (relativeWord v (stepsFrom v S P i).1 (stepsFrom v S P i).2 j).getLsbD b := by
  induction n with
  | zero => exact BitVec.getLsbD_zero
  | succ n ih =>
    rw [polynomialOfSteps, BitVec.getLsbD_xor, ih, sum_range_succ, testBit_polynomialMask, Bool.add_eq_xor]
    congr 1
    split
    · next hbit => rw [hbit]; exact (one_mul _).symm
    · next hbit => rw [Bool.eq_false_iff.mpr hbit]; exact BitVec.getLsbD_zero.trans (zero_mul _).symm

/-- Bit b of word j, step after step. -/
def bitSequence (v : Variant) (S : StateArray) (j b k : Nat) : Bool :=
  (StateArray.word (stepsFrom v S 0 k).1 j).getLsbD b

/-- A polynomial of the step, bit by bit, is the polynomial applied to the bit sequences. -/
theorem getLsbD_polynomialOfSteps_stepsFrom (hc : v.hasCursor = false) (q : List Word) (S : StateArray) {j : Nat}
    (hj : j < v.len) (b k : Nat) :
    (polynomialOfSteps v q (stepsFrom v S 0 k).1 0 j 128).getLsbD b
      = applyMask (bitSequence v S j b) (polynomialMask q) k := by
  have hsteps (i : Nat) : stepsFrom v (stepsFrom v S 0 k).1 0 i = stepsFrom v S 0 (k + i) := by
    rw [← stepsFrom_add, stepsFrom_cursor_of_noCursor hc]
  simp only [getLsbD_polynomialOfSteps, hsteps, stepsFrom_cursor_of_noCursor hc, relativeWord_zero _ hj, applyMask,
    bitSequence]

/-- R462: if T^128 = R(T), a polynomial that is x^(2^m) modulo x^128 + R takes each state 2^m steps ahead. -/
theorem polynomialOfSteps_eq_stepsFrom (hc : v.hasCursor = false) {R q : List Word} {m j : Nat} (hj : j < v.len)
    (hR : ∀ S : StateArray, polynomialOfSteps v R S 0 j 128 = StateArray.word (stepsFrom v S 0 128).1 j)
    (hq : powerMask (polynomialMask R) m = polynomialMask q) (S : StateArray) :
    polynomialOfSteps v q S 0 j 128 = StateArray.word (stepsFrom v S 0 (2 ^ m)).1 j := by
  apply BitVec.eq_of_getLsbD_eq
  intro b _
  have hu (k : Nat) : bitSequence v S j b (k + 128) = applyMask (bitSequence v S j b) (polynomialMask R) k := by
    rw [← getLsbD_polynomialOfSteps_stepsFrom hc R S hj, hR, bitSequence, ← stepsFrom_add,
      stepsFrom_cursor_of_noCursor hc]
  have hpower := applyMask_powerMask hu m 0
  rw [hq, ← getLsbD_polynomialOfSteps_stepsFrom hc q S hj, Nat.zero_add] at hpower
  exact hpower

/-- R464, for a 2-word engine. -/
theorem jumpAlg_eq_stepsFrom (hlen : v.len = 2) (hc : v.hasCursor = false) (hv : v.hasJump = true)
    (hf : SlicesStep v f) {R : List Word} (hR : SlicedRecurrence f (polynomialMask R)) {m : Nat}
    (hq : powerMask (polynomialMask R) m = polynomialMask (Rom.jump v)) (S : StateArray) :
    (jumpAlg v (Rom.jump v) S 0).1 = (stepsFrom v S 0 (2 ^ m)).1 := by
  refine StateArray.ext_relativeWords (P := 0) v.len_pos (fun j hj => ?_) (fun i hi => ?_)
  · rw [relativeWord_jumpAlg (P := 0) S hv v.len_pos hj, relativeWord_zero _ hj, hlen]
    exact polynomialOfSteps_eq_stepsFrom hc hj
      (fun S => polynomialOfSteps_of_slicedRecurrence hlen hc hf hR S (hlen ▸ hj)) hq S
  · rw [jumpAlg_word_of_le _ _ _ _ hi, stepsFrom_word_of_le _ _ _ _ hi]

/-! Engine by engine: R is x^128 modulo the minimal polynomial of 95_test_vectors.md 5.2, its lower 128 bits. The kernel
evaluates both hypotheses: that the engine obeys R, and that the ROM words are x^(2^64) modulo x^128 + R. -/

theorem jumpAlg_xorShift128PlusA (S : StateArray) :
    (jumpAlg .xorShift128PlusA (Rom.jump .xorShift128PlusA) S 0).1 = (stepsFrom .xorShift128PlusA S 0 (2 ^ 64)).1 :=
  jumpAlg_eq_stepsFrom rfl rfl rfl slicesStep_xorShift128PlusA (R := [0x024F06FAE9E61DAF, 0x2844C5D42CAF7DB0])
    (by decide +kernel) (by decide +kernel) S

theorem jumpAlg_xorShift128PlusB (S : StateArray) :
    (jumpAlg .xorShift128PlusB (Rom.jump .xorShift128PlusB) S 0).1 = (stepsFrom .xorShift128PlusB S 0 (2 ^ 64)).1 :=
  jumpAlg_eq_stepsFrom rfl rfl rfl slicesStep_xorShift128PlusB (R := [0xBD82FD40E01730F9, 0x01F9F801F6FD0098])
    (by decide +kernel) (by decide +kernel) S

theorem jumpAlg_xoroShiro128Plus (S : StateArray) :
    (jumpAlg .xoroShiro128Plus (Rom.jump .xoroShiro128Plus) S 0).1 = (stepsFrom .xoroShiro128Plus S 0 (2 ^ 64)).1 :=
  jumpAlg_eq_stepsFrom rfl rfl rfl slicesStep_xoroShiro128Plus (R := [0x5FD66762F0E1C001, 0x00653CED7F29F88A])
    (by decide +kernel) (by decide +kernel) S

theorem jumpAlg_xoroShiro128StarStar (S : StateArray) :
    (jumpAlg .xoroShiro128StarStar (Rom.jump .xoroShiro128StarStar) S 0).1
      = (stepsFrom .xoroShiro128StarStar S 0 (2 ^ 64)).1 :=
  jumpAlg_eq_stepsFrom rfl rfl rfl slicesStep_xoroShiro128StarStar (R := [0x095B8F76579AA001, 0x0008828E513B43D5])
    (by decide +kernel) (by decide +kernel) S

/-- R464 on VAR 3 to 6: JUMP leaves the words that 2^64 steps leave. -/
theorem jumpAlg_eq_two_pow_64_steps {v : Variant} (h3 : 3 ≤ v.code.toNat) (h6 : v.code.toNat ≤ 6) (S : StateArray) :
    (jumpAlg v (Rom.jump v) S 0).1 = (stepsFrom v S 0 (2 ^ 64)).1 := by
  cases v with
  | xorShift128PlusA => exact jumpAlg_xorShift128PlusA S
  | xorShift128PlusB => exact jumpAlg_xorShift128PlusB S
  | xoroShiro128Plus => exact jumpAlg_xoroShiro128Plus S
  | xoroShiro128StarStar => exact jumpAlg_xoroShiro128StarStar S
  | splitMix64 | xorShift64StarA | xorShift64StarB => exact absurd h3 (by decide)
  | _ => exact absurd h6 (by decide)

end Sys2Proof.Machine
end

section
/-! PROOF. The statements of 46_jump.md. -/

namespace Sys2Proof.Proofs

open Sys2Proof.Machine

/-- Settles O34: R462, R463, R465: the scan accumulates the polynomial's terms, and the write-back stores them relative
to P. -/
theorem jumpAppliesPolynomial : Obligations.JumpAppliesPolynomial := by
  intro s seeded
  refine ⟨fun h3 h12 hP => ?_, fun hcode => ?_⟩
  · have hv := s.xs.var.hasJump_eq_true_iff.mpr ⟨h3, h12⟩
    exact ⟨(jumpAlg s.xs.var (Rom.jump s.xs.var) s.xs.words s.xs.cursor).1, exec_jump_of_hasJump seeded hv hP,
      fun j hj => relativeWord_jumpAlg _ hv hP hj, fun i hi => jumpAlg_word_of_le _ _ _ _ hi⟩
  · have hv : s.xs.var.hasJump = false := by
      rw [Bool.eq_false_iff, Ne, Variant.hasJump_eq_true_iff]
      omega
    rw [exec_jump_of_noJump seeded hv]
    rfl

/-- Settles O35: R466: the step is linear over GF(2), so it commutes with JUMP's polynomial of it
(`stepVar_jumpAlg`). -/
theorem jumpCommutesWithNext : Obligations.JumpCommutesWithNext := by
  intro s seeded h3 h12 hP
  have hv := s.xs.var.hasJump_eq_true_iff.mpr ⟨h3, h12⟩
  have hnext := stepVar_cursor_lt s.xs.var s.xs.words hP
  refine ⟨_, _, _, _, exec_next_of_seeded seeded, exec_jump_of_hasJump seeded hv hnext,
    exec_jump_of_hasJump seeded hv hP, exec_next_of_seeded seeded, ?_, ?_, rfl⟩
  · exact (stepVar_jumpAlg hv s.xs.words hP).symm
  · exact stepVar_cursor_eq s.xs.var _ _ s.xs.cursor

/-- Settles O36: R460 to R464: T^128 is the engine's polynomial R of T, and the ROM words are x^(2^64) modulo x^128 + R
(`jumpAlg_eq_stepsFrom`). -/
theorem jumpSkipsTwoTo64Steps : Obligations.JumpSkipsTwoTo64Steps := by
  intro s seeded hP h3 h6
  have hv := s.xs.var.hasJump_eq_true_iff.mpr ⟨h3, by omega⟩
  have hlt : s.xs.cursor.toNat < s.xs.var.len := hP ▸ s.xs.var.len_pos
  rw [exec_jump_of_hasJump seeded hv hlt, hP, jumpAlg_eq_two_pow_64_steps h3 h6]
  rfl

/-- Settles O56: R460, R461, row by row: the table is closed and evaluates to the listed words. -/
theorem jumpRomTable : Obligations.JumpRomTable := by
  refine ⟨rfl, rfl, rfl, rfl, rfl, rfl, rfl, rfl, rfl, rfl, rfl, rfl, rfl, rfl, fun v => ?_⟩
  cases v <;> rfl

end Sys2Proof.Proofs
end

section
/-! PROOF. The commands of 47_commands.md and the errors of 60_exceptions.md: which answer each command gives under
which guard, and that it is the one `commandError` names (R600 to R602). -/

namespace Sys2Proof.Machine

/-! ## Answers under a guard -/

theorem Variant.hasCursor_eq_true_iff (v : Variant) : v.hasCursor = true ↔ 11 ≤ v.code.toNat := by
  cases v <;> decide

theorem Variant.hasCursor_eq_false_iff (v : Variant) : v.hasCursor = false ↔ v.code.toNat < 11 := by
  rw [← Nat.not_le, ← v.hasCursor_eq_true_iff, Bool.not_eq_true]

variable {s : State}

/-- R601: NOT_SEEDED comes before anything else. -/
theorem exec_of_unseeded {i : Instr} (hi : checksSeeded i = true) (unseeded : s.xs.seeded = false) :
    exec i s = cmdError s .notSeeded := by
  cases i with
  | nop | seed | rotl | clrstat => cases hi
  | next | nexti63 | jump | rdstate | wrstate | rdcur | wrcur => exact whenSeeded_of_unseeded unseeded _

theorem exec_seed_of_some {n : Nat} {v : Variant} (h : variantOperand n = some v) (s : State) :
    exec (.seed n) s = complete s (afterSeed s.xs v) := by
  simp only [exec, execSeed, h]

section
variable (seeded : s.xs.seeded = true)
include seeded

/-- R504: NEXTI63 on a seeded unit completes with NEXT's step, bit 63 of its output cleared. -/
theorem exec_nexti63_of_seeded :
    exec .nexti63 s
      = complete s (afterStep s.xs (generatorStep s.xs) ((generatorStep s.xs).out &&& 0x7FFFFFFFFFFFFFFF)) :=
  whenSeeded_of_seeded seeded _

/-- R465: JUMP on a seeded unit whose variant has a polynomial, wherever P stands (log 18). -/
theorem exec_jump_eq_jumpAlg (hj : s.xs.var.hasJump = true) :
    exec .jump s
      = complete s { s.xs with words := (jumpAlg s.xs.var (Rom.jump s.xs.var) s.xs.words s.xs.cursor).1
                               cursor := (jumpAlg s.xs.var (Rom.jump s.xs.var) s.xs.words s.xs.cursor).2 } :=
  (whenSeeded_of_seeded seeded _).trans (if_pos hj)

theorem exec_rdstate_of_le {i : Nat} (hi : s.xs.var.len ≤ i) : exec (.rdstate i) s = cmdError s .badIndex := by
  refine (whenSeeded_of_seeded seeded _).trans ?_
  rw [indexOperand_eq_none.mpr hi]

theorem exec_wrstate_of_le {i : Nat} (hi : s.xs.var.len ≤ i) : exec (.wrstate i) s = cmdError s .badIndex := by
  refine (whenSeeded_of_seeded seeded _).trans ?_
  rw [indexOperand_eq_none.mpr hi]

theorem exec_rdcur_of_noCursor (hc : s.xs.var.hasCursor = false) : exec .rdcur s = cmdError s .noCursor :=
  (whenSeeded_of_seeded seeded _).trans (if_neg (Bool.eq_false_iff.mp hc))

theorem exec_wrcur_of_noCursor (hc : s.xs.var.hasCursor = false) : exec .wrcur s = cmdError s .noCursor :=
  (whenSeeded_of_seeded seeded _).trans (if_neg (Bool.eq_false_iff.mp hc))

theorem exec_wrcur_of_le (hc : s.xs.var.hasCursor = true) (hP : s.xs.var.len ≤ s.xs.argl.toNat) :
    exec .wrcur s = cmdError s .badIndex := by
  refine (whenSeeded_of_seeded seeded _).trans ((if_pos hc).trans ?_)
  rw [cursorOperand_eq_none.mpr hP]

end

/-! ## The error a command raises (R600 to R603) -/

/-- The command's answer fits the error `commandError` names: the error procedure; or, where none applies, a completion
that leaves ERR and ECODE alone, but for CLRSTAT. -/
def AnswersAs (i : Instr) (s : State) : Option CmdError → Prop
  | some e => exec i s = cmdError s e
  | none => ∃ y, exec i s = complete s y ∧ (i ≠ .clrstat → y.err = s.xs.err ∧ y.ecode = s.xs.ecode)

/-- VAR 0, 1, 2 and 13 are the variants without a jump. -/
theorem codeWithoutJump_code (v : Variant) : codeWithoutJump v.code = !v.hasJump := by cases v <;> rfl

/-- VAR 11 to 13 are the variants with a cursor. -/
theorem codeWithCursor_code (v : Variant) : codeWithCursor v.code = v.hasCursor := by cases v <;> rfl

theorem commandError_seed (n : Nat) (x : Xscore) :
    commandError (.seed n) x = if 14 ≤ n then some .badVariant else none := by
  simp [commandError, namesNoVariant, checksSeeded, lacksJump, lacksCursor, indexTooLarge]

theorem commandError_of_unseeded {i : Instr} (hi : checksSeeded i = true) {x : Xscore} (unseeded : x.seeded = false) :
    commandError i x = some .notSeeded := by
  cases i with
  | nop | seed | rotl | clrstat => cases hi
  | next | nexti63 | jump | rdstate | wrstate | rdcur | wrcur =>
    simp [commandError, namesNoVariant, checksSeeded, unseeded]

section
variable {x : Xscore} (seeded : x.seeded = true)
include seeded

theorem commandError_next : commandError .next x = none := by
  simp [commandError, namesNoVariant, lacksJump, lacksCursor, indexTooLarge, seeded]

theorem commandError_nexti63 : commandError .nexti63 x = none := by
  simp [commandError, namesNoVariant, lacksJump, lacksCursor, indexTooLarge, seeded]

theorem commandError_jump : commandError .jump x = if x.var.hasJump then none else some .noJump := by
  cases hj : x.var.hasJump <;>
    simp [commandError, namesNoVariant, lacksJump, lacksCursor, indexTooLarge, seeded, codeWithoutJump_code, hj]

theorem commandError_rdstate (i : Nat) :
    commandError (.rdstate i) x = if x.var.len ≤ i then some .badIndex else none := by
  simp [commandError, namesNoVariant, lacksJump, lacksCursor, indexTooLarge, seeded]

theorem commandError_wrstate (i : Nat) :
    commandError (.wrstate i) x = if x.var.len ≤ i then some .badIndex else none := by
  simp [commandError, namesNoVariant, lacksJump, lacksCursor, indexTooLarge, seeded]

theorem commandError_rdcur : commandError .rdcur x = if x.var.hasCursor then none else some .noCursor := by
  cases hc : x.var.hasCursor <;>
    simp [commandError, namesNoVariant, lacksJump, lacksCursor, indexTooLarge, seeded, codeWithCursor_code, hc]

theorem commandError_wrcur :
    commandError .wrcur x =
      if x.var.hasCursor then (if x.var.len ≤ x.argl.toNat then some .badIndex else none) else some .noCursor := by
  cases hc : x.var.hasCursor <;>
    simp [commandError, namesNoVariant, lacksJump, lacksCursor, indexTooLarge, seeded, codeWithCursor_code, hc]

end

/-- R602, behind the SEEDED guard, command by command. -/
theorem exec_answersAs_of_seeded {i : Instr} (hi : checksSeeded i = true) (seeded : s.xs.seeded = true) :
    AnswersAs i s (commandError i s.xs) := by
  cases i with
  | nop | seed | rotl | clrstat => cases hi
  | next =>
    rw [commandError_next seeded]
    exact ⟨_, exec_next_of_seeded seeded, fun _ => ⟨rfl, rfl⟩⟩
  | nexti63 =>
    rw [commandError_nexti63 seeded]
    exact ⟨_, exec_nexti63_of_seeded seeded, fun _ => ⟨rfl, rfl⟩⟩
  | jump =>
    rw [commandError_jump seeded]
    split
    · next hj => exact ⟨_, exec_jump_eq_jumpAlg seeded hj, fun _ => ⟨rfl, rfl⟩⟩
    · next hj => exact exec_jump_of_noJump seeded (Bool.eq_false_iff.mpr hj)
  | rdstate i =>
    rw [commandError_rdstate seeded]
    split
    · next hi => exact exec_rdstate_of_le seeded hi
    · next hi => exact ⟨_, exec_rdstate_of_lt seeded (Nat.not_le.mp hi), fun _ => ⟨rfl, rfl⟩⟩
  | wrstate i =>
    rw [commandError_wrstate seeded]
    split
    · next hi => exact exec_wrstate_of_le seeded hi
    · next hi => exact ⟨_, exec_wrstate_of_lt seeded (Nat.not_le.mp hi), fun _ => ⟨rfl, rfl⟩⟩
  | rdcur =>
    rw [commandError_rdcur seeded]
    split
    · next hc => exact ⟨_, exec_rdcur_of_hasCursor seeded hc, fun _ => ⟨rfl, rfl⟩⟩
    · next hc => exact exec_rdcur_of_noCursor seeded (Bool.eq_false_iff.mpr hc)
  | wrcur =>
    rw [commandError_wrcur seeded]
    split
    · next hc =>
      split
      · next hP => exact exec_wrcur_of_le seeded hc hP
      · next hP => exact ⟨_, exec_wrcur_of_lt seeded hc (Nat.not_le.mp hP), fun _ => ⟨rfl, rfl⟩⟩
    · next hc => exact exec_wrcur_of_noCursor seeded (Bool.eq_false_iff.mpr hc)

/-- R602: the commands that do not check SEEDED; of these only SEED has an error. -/
theorem exec_answersAs_of_not_checksSeeded {i : Instr} (hi : checksSeeded i = false) (s : State) :
    AnswersAs i s (commandError i s.xs) := by
  cases i with
  | next | nexti63 | jump | rdstate | wrstate | rdcur | wrcur => cases hi
  | nop => exact ⟨_, rfl, fun _ => ⟨rfl, rfl⟩⟩
  | rotl k => exact ⟨_, exec_rotl k s, fun _ => ⟨rfl, rfl⟩⟩
  | clrstat => exact ⟨_, rfl, fun h => absurd rfl h⟩
  | seed n =>
    rw [commandError_seed]
    split
    · next hn => exact exec_seed_of_le hn s
    · next hn =>
      obtain ⟨v, hv⟩ := Option.ne_none_iff_exists'.mp (mt variantOperand_eq_none.mp hn)
      exact ⟨_, exec_seed_of_some hv s, fun _ => ⟨rfl, rfl⟩⟩

/-- R602, R603: every command answers as `commandError` says. -/
theorem exec_answersAs (i : Instr) (s : State) : AnswersAs i s (commandError i s.xs) := by
  cases hi : checksSeeded i with
  | false => exact exec_answersAs_of_not_checksSeeded hi s
  | true =>
    cases hs : s.xs.seeded with
    | true => exact exec_answersAs_of_seeded hi hs
    | false =>
      rw [commandError_of_unseeded hi hs]
      exact exec_of_unseeded hi hs

/-- R601: the other commands do not look at SEEDED: with another value there, the answer differs at most in SEEDED. -/
theorem exec_setSeeded_of_not_checksSeeded {i : Instr} (hi : checksSeeded i = false) (s : State) (b : Bool) :
    ∃ t u : State, exec i s = .next t ∧ exec i { s with xs := { s.xs with seeded := b } } = .next u
      ∧ { u with xs := { u.xs with seeded := t.xs.seeded } } = t := by
  cases i with
  | next | nexti63 | jump | rdstate | wrstate | rdcur | wrcur => cases hi
  | nop | rotl | clrstat => exact ⟨_, _, rfl, rfl, rfl⟩
  | seed n =>
    cases hv : variantOperand n with
    | some v => exact ⟨_, _, exec_seed_of_some hv _, exec_seed_of_some hv _, rfl⟩
    | none =>
      have hn := variantOperand_eq_none.mp hv
      exact ⟨_, _, exec_seed_of_le hn _, exec_seed_of_le hn _, rfl⟩

end Sys2Proof.Machine
end

section
/-! PROOF. The statements of 47_commands.md, and those of 60_exceptions.md on the errors of a command. -/

namespace Sys2Proof.Proofs

open Sys2Proof.Machine

/-- Settles O13: R600, R602, R603: `exec_answersAs` compares each command with the error that applies. -/
theorem errorPriorityAndProcedure : Obligations.ErrorPriorityAndProcedure := by
  refine ⟨fun i s e he => ?_, fun i s he hi => ?_, rfl, rfl, rfl, rfl, rfl, rfl⟩
  · have h := exec_answersAs i s
    rw [he] at h
    exact h
  · have h := exec_answersAs i s
    rw [he] at h
    obtain ⟨y, heq, hkept⟩ := h
    exact ⟨s.finish y, heq, hkept hi⟩

/-- Settles O14: R601: the guard for the seven commands (`exec_of_unseeded`), and SEEDED unread by the other four. -/
theorem seededGuard : Obligations.SeededGuard :=
  ⟨fun _ _ hi unseeded => exec_of_unseeded hi unseeded, fun _ s b hi => exec_setSeeded_of_not_checksSeeded hi s b⟩

/-- Settles O15: R501: a value that decodes to NOP is NOP's encoding, which is 0. -/
theorem nopChangesOnlyBusy : Obligations.NopChangesOnlyBusy := by
  refine ⟨fun c => ⟨fun h => ?_, fun h => ?_⟩, fun _ => rfl⟩
  · obtain ⟨-, hc⟩ := encodeOfDecodedCommand c .nop h
    rw [← hc]
    decide
  · rw [h]
    decide

/-- Settles O16: R509, with the overrun bit of an accepted and of a dropped CMD write (log 9). -/
theorem clrstatClearsStickyStatus : Obligations.ClrstatClearsStickyStatus := by
  refine ⟨fun _ => rfl, fun x c idle => ?_, fun x c busy => ?_⟩
  · rw [writeCmd_of_idle idle]
  · rw [writeCmd_of_busy busy]

/-- Settles O29: R504: both commands complete with the same step, and a masked word has no bit 63. -/
theorem nexti63MasksNext : Obligations.Nexti63MasksNext := by
  intro s seeded
  refine ⟨_, exec_next_of_seeded seeded, exec_nexti63_of_seeded seeded, ?_⟩
  rw [BitVec.toNat_and]
  exact Nat.and_le_right

/-- Settles O30: R505. -/
theorem rdstateReadsWord : Obligations.RdstateReadsWord :=
  fun _ _ seeded => ⟨exec_rdstate_of_lt seeded, exec_rdstate_of_le seeded⟩

/-- Settles O31: R506. -/
theorem wrstateWritesWord : Obligations.WrstateWritesWord :=
  fun _ _ seeded => ⟨exec_wrstate_of_lt seeded, exec_wrstate_of_le seeded⟩

/-- Settles O32: R507: VAR 11 to 13 are the variants with a cursor. -/
theorem rdcurReadsCursor : Obligations.RdcurReadsCursor := fun s seeded =>
  ⟨fun h => exec_rdcur_of_hasCursor seeded (s.xs.var.hasCursor_eq_true_iff.mpr h),
    fun h => exec_rdcur_of_noCursor seeded (s.xs.var.hasCursor_eq_false_iff.mpr h)⟩

/-- Settles O33: R508: WRCUR on a variant with a cursor, ARGL below N or not, and on the others. -/
theorem wrcurWritesCursor : Obligations.WrcurWritesCursor := by
  intro s seeded
  rw [← s.xs.var.hasCursor_eq_true_iff, ← s.xs.var.hasCursor_eq_false_iff, BitVec.ofNat_toNat]
  exact ⟨exec_wrcur_of_lt seeded, exec_wrcur_of_le seeded, exec_wrcur_of_noCursor seeded⟩

end Sys2Proof.Proofs
end

section
/-! PROOF. The engine's turn (70_reset_and_hazards.md R711), a reset (R700), and who moves when no move is placed (log
6): a pending engine, the selected unit's first; nobody, once the run has ended (R624, R715). -/

namespace Sys2Proof.Machine

variable {s t : State}

/-! ## One engine -/

theorem engineStep_of_decode {i : Instr} (busy : s.xs.pend = true) (h : decode s.xs.cmdl = some i) :
    engineStep s = exec i s := by
  simp only [engineStep, busy, h, if_true]

/-- A pending command completes, legal or not: PEND becomes 0, and nothing outside the unit changes. -/
theorem engineStep_completes (busy : s.xs.pend = true) :
    ∃ y : Xscore, y.pend = false ∧ engineStep s = .next { s with xs := y } := by
  cases h : decode s.xs.cmdl with
  | some i =>
    obtain ⟨y, -, heq⟩ := exec_completes i s
    exact ⟨{ y with pend := false }, rfl, (engineStep_of_decode busy h).trans heq⟩
  | none =>
    refine ⟨{ recordError s.xs .illegalCmd with pend := false }, rfl, ?_⟩
    simp only [engineStep, busy, h, if_true]
    rfl

theorem engineMove_of_select {k : Nat} {s' : State} (h : s.select k = some s') : engineMove k s = engineStep s' := by
  simp only [engineMove, h]

theorem step_of_no_move_of_busy (hs : s.sched = []) (busy : s.xs.pend = true) : step s = engineStep s := by
  rw [step_of_no_move hs, autoMove, if_pos busy]

/-! ## The count of pending commands -/

theorem State.pendingCount_replaceSelected (s : State) (y : Xscore) (busy : s.xs.pend = true) (idle : y.pend = false) :
    State.pendingCount { s with xs := y } + 1 = s.pendingCount := by
  simp only [State.pendingCount, State.units, List.countP_append, List.countP_cons, busy, idle, if_true,
    Bool.false_eq_true, if_false]
  omega

/-- The answer is a next state with one pending command fewer, the moves to come and the hosts as before. -/
def CompletesOnePending (s : State) (r : Result) : Prop :=
  ∃ t : State, r = .next t ∧ t.pendingCount + 1 = s.pendingCount ∧ t.sched = s.sched ∧ t.hosts = s.hosts

theorem engineStep_completesOnePending (busy : s.xs.pend = true) : CompletesOnePending s (engineStep s) := by
  obtain ⟨y, idle, heq⟩ := engineStep_completes busy
  exact ⟨_, heq, s.pendingCount_replaceSelected y busy idle, rfl, rfl⟩

/-- The engine of a unit that is pending completes its command. -/
theorem engineMove_completesOnePending {k : Nat} {x : Xscore} (hx : s.units[k]? = some x) (busy : x.pend = true) :
    CompletesOnePending s (engineMove k s) := by
  obtain ⟨s', hsel⟩ : ∃ s', s.select k = some s' := ⟨_, State.select_isSome hx⟩
  obtain ⟨hselected, -, -, hunits, hhosts, hsched, -⟩ := State.select_spec hsel
  obtain rfl : x = s'.xs := Option.some.inj (hx.symm.trans hselected)
  have hcount : s'.pendingCount = s.pendingCount := by rw [State.pendingCount, State.pendingCount, hunits]
  rw [engineMove_of_select hsel, CompletesOnePending, ← hcount, ← hsched, ← hhosts]
  exact engineStep_completesOnePending busy

/-! ## The automatic order -/

/-- While some unit is pending the automatic move is an engine's. -/
theorem autoMove_completesOnePending (h : 0 < s.pendingCount) : CompletesOnePending s (autoMove s) := by
  unfold autoMove
  split
  · next busy => exact engineStep_completesOnePending busy
  · obtain ⟨x, hx, busy⟩ := List.countP_pos_iff.mp h
    split
    · next k hk =>
      obtain ⟨hlt, hbusy, -⟩ := List.findIdx?_eq_some_iff_getElem.mp hk
      exact engineMove_completesOnePending (List.getElem?_eq_getElem hlt) hbusy
    · next hnone =>
      have idle := List.findIdx?_eq_none_iff.mp hnone x hx
      rw [busy] at idle
      cases idle

theorem State.runEnded_iff :
    s.runEnded = true ↔ (∀ h ∈ s.hosts, h.ended = true) ∧ ∀ x ∈ s.units, x.pend = false := by
  simp [State.runEnded]

/-- Once the run has ended nobody moves by itself. -/
theorem autoMove_of_runEnded (h : s.runEnded = true) : autoMove s = .next s := by
  obtain ⟨ended, idle⟩ := State.runEnded_iff.mp h
  have hxs : s.xs.pend = false := idle s.xs (by simp [State.units])
  have hunits : s.units.findIdx? (fun x => x.pend) = none := List.findIdx?_eq_none_iff.mpr idle
  have hhosts : s.hosts.findIdx? (fun h => !h.ended) = none :=
    List.findIdx?_eq_none_iff.mpr fun h hh => by rw [ended h hh]; rfl
  simp [autoMove, hxs, hunits, hhosts]

/-! ## Other units -/

theorem UnitChangesAt.units_eq {i : Nat} (h : UnitChangesAt i s t) :
    t.units.length = s.units.length ∧ ∀ j : Nat, j ≠ i → t.units[j]? = s.units[j]? := by
  obtain ⟨x, y, -, -, hunits⟩ := h
  rw [hunits]
  exact ⟨List.length_set, fun j hj => List.getElem?_set_ne hj.symm⟩

theorem UnitsChange.units_eq (h : UnitsChange s t) :
    t.units.length = s.units.length ∧ ∃ i : Nat, ∀ j : Nat, j ≠ i → t.units[j]? = s.units[j]? := by
  rcases h with hunits | ⟨i, hi⟩
  · rw [hunits]
    exact ⟨rfl, 0, fun _ _ => rfl⟩
  · exact ⟨hi.units_eq.1, i, hi.units_eq.2⟩

/-- R620: the engine of unit i reaches no other unit. -/
theorem step_engine_units_eq {i : Nat} {ms : List Move} (hs : s.sched = .engine i :: ms) (ht : step s = .next t)
    {j : Nat} (hj : j ≠ i) : t.units[j]? = s.units[j]? := by
  rw [step_of_move hs] at ht
  rcases (engineMove_change ht).1 with hunits | hi
  · rw [hunits]
    rfl
  · exact hi.units_eq.2 j hj

/-! ## Reset -/

theorem resetMove_of_unit {i : Nat} {x : Xscore} (hx : s.units[i]? = some x) :
    resetMove i s
      = .next { s with left := s.units.take i, xs := Xscore.reset x.base, right := s.units.drop (i + 1) } := by
  simp only [resetMove, State.select_isSome hx]

end Sys2Proof.Machine
end

section
/-! PROOF. The statements of 60_exceptions.md and 70_reset_and_hazards.md on the units, resets and the order of moves. -/

namespace Sys2Proof.Proofs

open Sys2Proof.Machine

/-- Settles O5: R500, R711: the move reaches `engineStep` on the unit, which runs the decoded command. -/
theorem stepRunsAcceptedCommand : Obligations.StepRunsAcceptedCommand := by
  have hauto (s : State) (i : Instr) (hs : s.sched = []) (busy : s.xs.pend = true) (hi : decode s.xs.cmdl = some i) :
      step s = exec i s := (step_of_no_move_of_busy hs busy).trans (engineStep_of_decode busy hi)
  refine ⟨hauto, fun s i k ms x hs hx busy hi => ?_, fun s i nbits w hi => hauto _ i rfl rfl hi⟩
  refine ⟨{ s with left := s.units.take k, xs := x, right := s.units.drop (k + 1), sched := ms }, rfl, rfl, rfl, ?_,
    rfl, rfl, rfl, ?_⟩
  · obtain ⟨-, -, -, hunits, -⟩ := State.select_spec (State.select_isSome hx)
    exact hunits
  · rw [step_of_move hs]
    exact (engineMove_of_select (s := { s with sched := ms }) (State.select_isSome hx)).trans
      (engineStep_of_decode busy hi)

/-- Settles O7: R700: the unit is its reset state, `Xscore.reset`, at its own window. -/
theorem resetMoveResetsOneUnit : Obligations.ResetMoveResetsOneUnit := by
  intro s i ms x hs hx
  exact ⟨_, Xscore.reset x.base, (step_of_move hs).trans (resetMove_of_unit (s := { s with sched := ms }) hx),
    State.units_of_select hx _ _ _ _, rfl, rfl, rfl, rfl, rfl, rfl, rfl, rfl, rfl, statusWord_reset _, rfl⟩

/-- Settles O45: R712, as a write at offset 0x00 of a busy unit. -/
theorem cmdWriteWhileBusyIsDropped : Obligations.CmdWriteWhileBusyIsDropped := by
  intro s i x c ms hs hw busy
  rw [← writeCmd_of_busy busy c]
  exact step_write_of_atWindow (off := 0x00) (r := .cmd) hs hw rfl

/-- Settles O50: R620, by `step_change` for any step and `engineMove_change` for an engine's. -/
theorem unitsAreIndependent : Obligations.UnitsAreIndependent := by
  intro s t ht
  obtain ⟨hlength, hone⟩ := (step_change ht).1.units_eq
  exact ⟨hlength, hone, fun i ms hs j hj => step_engine_units_eq hs ht hj⟩

/-- Settles O52: R711: the automatic move is then an engine's, which completes its unit's command. -/
theorem pendingCommandsComplete : Obligations.PendingCommandsComplete := by
  intro s hs hpending
  obtain ⟨t, ht, hcount, hsched, hhosts⟩ := autoMove_completesOnePending hpending
  exact ⟨t, (step_of_no_move hs).trans ht, hcount, hsched.trans hs, hhosts⟩

/-- Settles O53: R624, R715. -/
theorem idleMachineHoldsItsState : Obligations.IdleMachineHoldsItsState :=
  fun _ hs hended => (step_of_no_move hs).trans (autoMove_of_runEnded hended)

end Sys2Proof.Proofs
end

section
/-! PROOF. The all-zero state (10_state.md R114). Every step reads only words below N, so a state that is zero there
steps as the all-zero array does; every variant but SPLITMIX64 is linear, so that array's step is zero, and JUMP adds up
states of its run. -/

namespace Sys2Proof.Machine

variable {v : Variant} {S : StateArray} {P : Cursor}

/-- A linear step keeps the words zero, since 0 ^ 0 = 0. -/
theorem stepVar_zero_words (hv : v ≠ .splitMix64) (hP : P.toNat < v.len) :
    AgreeBelow v.len (stepVar v StateArray.zero P).words StateArray.zero := by
  have hxor : XorBelow v.len StateArray.zero StateArray.zero StateArray.zero := fun i _ => by simp
  intro i hi
  rw [stepVar_xor hv hP hxor i hi, BitVec.xor_self, StateArray.word_zero]
  rfl

theorem stepVar_zero_out (hv : v ≠ .splitMix64) (P : Cursor) : (stepVar v StateArray.zero P).out = 0 := by
  cases v with
  | splitMix64 => exact absurd rfl hv
  | xorShift64StarA | xorShift64StarB => simp [stepVar, stepXorShift64StarA, stepXorShift64StarB, perm64]
  | xorShift128PlusA | xorShift128PlusB => simp [stepVar, stepXorShift128PlusA, stepXorShift128PlusB, xorShift128Plus]
  | xoroShiro128Plus | xoroShiro256Plus => simp [stepVar, stepXoroShiro128Plus, stepXoroShiro256Plus]
  | xoroShiro256PlusPlus => simp [stepVar, stepXoroShiro256PlusPlus, rotl]
  | xoroShiro128StarStar | xoroShiro256StarStar | xoroShiro512StarStar =>
    simp [stepVar, stepXoroShiro128StarStar, stepXoroShiro256StarStar, stepXoroShiro512StarStar, starStar, rotl]
  | xorShift1024Star | xorShift1024StarPhi | xorShift4096Star =>
    simp [stepVar, stepXorShift1024Star, stepXorShift1024StarPhi, stepXorShift4096Star, stepRotating]

section
variable (hv : v ≠ .splitMix64) (hP : P.toNat < v.len) (h : AgreeBelow v.len S StateArray.zero)
include hv hP h

theorem stepVar_words_of_zero : AgreeBelow v.len (stepVar v S P).words StateArray.zero := fun i hi =>
  ((stepVar_agree v hP h).2 i hi).trans (stepVar_zero_words hv hP i hi)

theorem stepVar_out_of_zero : (stepVar v S P).out = 0 :=
  (stepVar_agree v hP h).1.trans (stepVar_zero_out hv P)

theorem stepsFrom_of_zero (k : Nat) : AgreeBelow v.len (stepsFrom v S P k).1 StateArray.zero := by
  induction k with
  | zero => exact h
  | succ k ih => exact stepVar_words_of_zero hv (stepsFrom_cursor_lt v S hP k) ih

/-- Every term of the sum is zero. -/
theorem polynomialOfSteps_of_zero (q : List Word) (j n : Nat) : polynomialOfSteps v q S P j n = 0 := by
  induction n with
  | zero => rfl
  | succ n ih =>
    have hterm : relativeWord v (stepsFrom v S P n).1 (stepsFrom v S P n).2 j = 0 := by
      rw [relativeWord, stepsFrom_of_zero hv hP h n _ (add_cursor_mod_lt v j _), StateArray.word_zero]
    rw [polynomialOfSteps, ih, hterm, ite_self]
    rfl

theorem jumpAlg_of_zero (hj : v.hasJump = true) :
    AgreeBelow v.len (jumpAlg v (Rom.jump v) S P).1 StateArray.zero := fun i hi => by
  rw [word_eq_relativeWord _ hP hi, relativeWord_jumpAlg S hj hP (Nat.mod_lt _ v.len_pos),
    polynomialOfSteps_of_zero hv hP h, StateArray.word_zero]

end

/-- JUMP keeps the words zero, by its polynomial or because it raises NO_JUMP. -/
theorem exec_jump_of_zero {s : State} (seeded : s.xs.seeded = true) (hv : s.xs.var ≠ .splitMix64)
    (hP : s.xs.cursor.toNat < s.xs.var.len) (h : AgreeBelow s.xs.var.len s.xs.words StateArray.zero) :
    ∃ t : State, exec .jump s = .next t ∧ AgreeBelow s.xs.var.len t.xs.words StateArray.zero := by
  cases hj : s.xs.var.hasJump with
  | true => exact ⟨_, exec_jump_of_hasJump seeded hj hP, jumpAlg_of_zero hv hP h hj⟩
  | false => exact ⟨_, exec_jump_of_noJump seeded hj, h⟩

end Sys2Proof.Machine
end

section
/-! PROOF. The statement of 10_state.md R114. -/

namespace Sys2Proof.Proofs

open Sys2Proof.Machine

/-- Settles O39: R114: NEXT and NEXTI63 complete with the step of a zero state, JUMP with a polynomial of it. -/
theorem allZeroStateIsFixed : Obligations.AllZeroStateIsFixed := by
  intro s seeded hv hP hwords
  have hzero : AgreeBelow s.xs.var.len s.xs.words StateArray.zero := fun i hi => by
    rw [hwords i hi, StateArray.word_zero]
  have hout : (generatorStep s.xs).out = 0 := stepVar_out_of_zero hv hP hzero
  have hstep : AgreeBelow s.xs.var.len (generatorStep s.xs).words StateArray.zero := stepVar_words_of_zero hv hP hzero
  obtain ⟨w, hw, hjump⟩ := exec_jump_of_zero seeded hv hP hzero
  refine ⟨_, _, w, exec_next_of_seeded seeded, exec_nexti63_of_seeded seeded, hw, hout, ?_, fun i hi => ?_⟩
  · simp [hout]
  · rw [← StateArray.word_zero i]
    exact ⟨hstep i hi, hstep i hi, hjump i hi⟩

end Sys2Proof.Proofs
end

section
/-! PROOF. The state step is injective on S[0..N-1] (41_splitmix64.md R415, 43_two_word.md R435, 44_four_eight_word.md
R445, 45_rotating_buffer.md R454). Each step writes a list of words; from two equal lists the old words follow one after
another, by cancelling what is already known equal and undoing a rotation or an xorshift. -/

namespace Sys2Proof.Machine

variable {n : Nat} {S S' : StateArray}

/-! ## What is undone -/

theorem rotl_injective {k : Nat} (hk : k < 64) : Function.Injective (fun x : Word => rotl x k) :=
  Function.LeftInverse.injective (g := fun x => rotl x ((64 - k) % 64)) fun x =>
    rotl_rotl_of_add_mod_eq_zero x hk (by omega) (by omega)

theorem xor_right_comm_word (x y z : Word) : x ^^^ y ^^^ z = x ^^^ z ^^^ y := by ac_rfl

theorem xor_xor_xor_word (x y z : Word) : x ^^^ y ^^^ (y ^^^ z) = x ^^^ z := by
  rw [BitVec.xor_assoc, ← BitVec.xor_assoc y, BitVec.xor_self, BitVec.zero_xor]

/-- Two arrays that agree below n after n words were written from index 0 on had the same words written. -/
theorem AgreeBelow.eq_of_setWords {ws ws' : List Word}
    (h : AgreeBelow n (StateArray.setWords S 0 ws) (StateArray.setWords S' 0 ws')) (hn : n ≤ 64) (hlen : ws.length = n)
    (hlen' : ws'.length = n) : ws = ws' := by
  refine List.ext_getElem (hlen.trans hlen'.symm) fun i hi hi' => ?_
  have hword := h i (by omega)
  rw [StateArray.word_setWords ws S 0 i (by omega), StateArray.word_setWords ws' S' 0 i (by omega),
    if_pos (by omega), if_pos (by omega)] at hword
  simpa [hi, hi'] using hword

/-! ## The steps -/

/-- A step that writes an injective function of word 0 to word 0. -/
theorem agreeBelow_of_setWord_zero {f : Word → Word} (hf : Function.Injective f)
    (h : AgreeBelow 1 (StateArray.setWord S 0 (f (StateArray.word S 0)))
      (StateArray.setWord S' 0 (f (StateArray.word S' 0)))) : AgreeBelow 1 S S' := by
  have hws := AgreeBelow.eq_of_setWords (ws := [_]) (ws' := [_]) h (by decide) rfl rfl
  intro i hi
  obtain rfl : i = 0 := by omega
  exact hf (List.cons.inj hws).1

/-- R430: the new S[0] is the old S[1]; what else the new S[1] holds is an xorshift of an xorshift of the old S[0]. -/
theorem agreeBelow_of_xorShift128Plus {shiftA : Nat} (shiftB : Nat) (hA : 0 < shiftA) {P : Cursor}
    (h : AgreeBelow 2 (xorShift128Plus shiftA shiftB S P).words (xorShift128Plus shiftA shiftB S' P).words) :
    AgreeBelow 2 S S' := by
  have hws := AgreeBelow.eq_of_setWords (ws := [_, _]) (ws' := [_, _]) h (by decide) rfl rfl
  simp only [List.cons.injEq, and_true] at hws
  obtain ⟨h1, hnew⟩ := hws
  have h0 : StateArray.word S 0 = StateArray.word S' 0 := by
    rw [h1, BitVec.xor_left_inj, xor_right_comm_word _ (StateArray.word S' 1),
      xor_right_comm_word _ (StateArray.word S' 1), BitVec.xor_left_inj] at hnew
    exact xorShiftLeft_injective (k := 23) (by decide) (xorShiftRight_injective hA hnew)
  intro i hi
  interval_cases i <;> assumption

/-- R433, R434: the new S[1] gives s1, the xor of the old words; then the new S[0] gives the old S[0]. -/
theorem agreeBelow_of_xoroShiro128Update {a c : Nat} (b : Nat) (ha : a < 64) (hc : c < 64)
    (h : AgreeBelow 2 (xoroShiro128Update a b c S) (xoroShiro128Update a b c S')) : AgreeBelow 2 S S' := by
  have hws := AgreeBelow.eq_of_setWords (ws := [_, _]) (ws' := [_, _]) h (by decide) rfl rfl
  simp only [List.cons.injEq, and_true] at hws
  obtain ⟨hnew0, hnew1⟩ := hws
  have hs1 : StateArray.word S 1 ^^^ StateArray.word S 0 = StateArray.word S' 1 ^^^ StateArray.word S' 0 :=
    rotl_injective hc hnew1
  have h0 : StateArray.word S 0 = StateArray.word S' 0 := by
    rw [hs1, BitVec.xor_left_inj, BitVec.xor_left_inj] at hnew0
    exact rotl_injective ha hnew0
  have h1 : StateArray.word S 1 = StateArray.word S' 1 := by rwa [h0, BitVec.xor_left_inj] at hs1
  intro i hi
  interval_cases i <;> assumption

/-- R440: the new S[3], S[0], S[1] and S[2], in this order, give s3 ^ s1, then s0, s1 ^ s2 and s2 ^ (s1 << 17), of which
the last two give s1. -/
theorem agreeBelow_of_upd256 (h : AgreeBelow 4 (upd256 S) (upd256 S')) : AgreeBelow 4 S S' := by
  have hws := AgreeBelow.eq_of_setWords h (by decide) rfl rfl
  simp only [List.cons.injEq, and_true] at hws
  obtain ⟨hnew0, hnew1, hnew2, hnew3⟩ := hws
  have h31 : StateArray.word S 3 ^^^ StateArray.word S 1 = StateArray.word S' 3 ^^^ StateArray.word S' 1 :=
    rotl_injective (k := Rom.xoshiro256.rotate) (by decide) hnew3
  have h0 : StateArray.word S 0 = StateArray.word S' 0 := by rwa [h31, BitVec.xor_left_inj] at hnew0
  have h1 : StateArray.word S 1 = StateArray.word S' 1 := by
    have hxor := congrArg₂ (· ^^^ ·) hnew1 hnew2
    simp only [xor_xor_xor_word] at hxor
    exact xorShiftLeft_injective (k := Rom.xoshiro256.shift) (by decide) hxor
  have h2 : StateArray.word S 2 = StateArray.word S' 2 := by
    rwa [h1, h0, BitVec.xor_right_inj, BitVec.xor_left_inj] at hnew1
  have h3 : StateArray.word S 3 = StateArray.word S' 3 := by rwa [h1, BitVec.xor_left_inj] at h31
  intro i hi
  interval_cases i <;> assumption

/-- R444: the new words, in the order 2, 1, 5, 4, 3, 7, 6, 0, give s1, s5, s4, s3, s7, s6 and s0, then s2. -/
theorem agreeBelow_of_upd512 (h : AgreeBelow 8 (upd512 S) (upd512 S')) : AgreeBelow 8 S S' := by
  have hws := AgreeBelow.eq_of_setWords h (by decide) rfl rfl
  simp only [List.cons.injEq, and_true] at hws
  obtain ⟨hnew0, hnew1, hnew2, hnew3, hnew4, hnew5, hnew6, hnew7⟩ := hws
  have h1 : StateArray.word S 1 = StateArray.word S' 1 := by rwa [hnew2, BitVec.xor_left_inj] at hnew1
  have h4 : StateArray.word S 4 = StateArray.word S' 4 := by rwa [hnew5, BitVec.xor_left_inj] at hnew4
  have h5 : StateArray.word S 5 = StateArray.word S' 5 := by rwa [h1, BitVec.xor_left_inj] at hnew5
  have h3 : StateArray.word S 3 = StateArray.word S' 3 := by rwa [h4, BitVec.xor_left_inj] at hnew3
  have h73 : StateArray.word S 7 ^^^ StateArray.word S 3 = StateArray.word S' 7 ^^^ StateArray.word S' 3 :=
    rotl_injective (k := Rom.xoshiro512.rotate) (by decide) hnew7
  have h6 : StateArray.word S 6 = StateArray.word S' 6 := by
    rwa [h73, h1, BitVec.xor_left_inj, BitVec.xor_left_inj] at hnew6
  have h7 : StateArray.word S 7 = StateArray.word S' 7 := by rwa [h3, BitVec.xor_left_inj] at h73
  have h0 : StateArray.word S 0 = StateArray.word S' 0 := by rwa [h6, BitVec.xor_left_inj] at hnew0
  have h2 : StateArray.word S 2 = StateArray.word S' 2 := by rwa [h0, BitVec.xor_left_inj] at hnew2
  intro i hi
  interval_cases i <;> assumption

theorem rotatingWord_injective {k : RotatingConstants} (ha : 0 < k.a) (hb : 0 < k.b) (s0 : Word) :
    Function.Injective (rotatingWord k s0) := fun _ _ h =>
  xorShiftLeft_injective ha (xorShiftRight_injective hb (BitVec.xor_right_inj _ |>.mp h))

/-- R450: only the word at the next cursor is new, and with N >= 2 the word at P is not that one. -/
theorem agreeBelow_of_stepRotating {v : Variant} {k : RotatingConstants} (hlen : 2 ≤ v.len) (ha : 0 < k.a)
    (hb : 0 < k.b) {P : Cursor} (hP : P.toNat < v.len)
    (h : AgreeBelow v.len (stepRotating v.len k S P).words (stepRotating v.len k S' P).words) :
    AgreeBelow v.len S S' := by
  have hnext := nextCursor_lt v P
  have hkept : ∀ i < v.len, (nextCursor v.len P).toNat ≠ i → StateArray.word S i = StateArray.word S' i := by
    intro i hi hne
    have hword := h i hi
    rwa [stepRotating_words, stepRotating_words, StateArray.word_setWord_ne _ _ _ _ hne,
      StateArray.word_setWord_ne _ _ _ _ hne] at hword
  have hP' : StateArray.word S P.toNat = StateArray.word S' P.toNat := by
    refine hkept _ hP fun heq => ?_
    rw [toNat_nextCursor] at heq
    rcases Nat.lt_or_ge (P.toNat + 1) v.len with hlt | hge
    · rw [Nat.mod_eq_of_lt hlt] at heq
      omega
    · rw [show P.toNat + 1 = v.len by omega, Nat.mod_self] at heq
      omega
  have hnew := h _ hnext
  rw [stepRotating_words, stepRotating_words, StateArray.word_setWord_same _ _ _ (by omega),
    StateArray.word_setWord_same _ _ _ (by omega), hP'] at hnew
  intro i hi
  by_cases hne : (nextCursor v.len P).toNat = i
  · subst hne
    exact rotatingWord_injective ha hb _ hnew
  · exact hkept i hi hne

/-- R415, R435, R445, R454: the step of every variant is injective on S[0..N-1]. -/
theorem agreeBelow_of_stepVar (v : Variant) {P : Cursor} (hP : P.toNat < v.len)
    (h : AgreeBelow v.len (stepVar v S P).words (stepVar v S' P).words) : AgreeBelow v.len S S' := by
  cases v with
  | splitMix64 => exact agreeBelow_of_setWord_zero (add_left_injective Rom.gamma) h
  | xorShift64StarA | xorShift64StarB => exact agreeBelow_of_setWord_zero perm64_bijective.injective h
  | xorShift128PlusA => exact agreeBelow_of_xorShift128Plus 5 (by decide) h
  | xorShift128PlusB => exact agreeBelow_of_xorShift128Plus 26 (by decide) h
  | xoroShiro128Plus => exact agreeBelow_of_xoroShiro128Update 14 (by decide) (by decide) h
  | xoroShiro128StarStar => exact agreeBelow_of_xoroShiro128Update 16 (by decide) (by decide) h
  | xoroShiro256Plus | xoroShiro256PlusPlus | xoroShiro256StarStar => exact agreeBelow_of_upd256 h
  | xoroShiro512StarStar => exact agreeBelow_of_upd512 h
  | xorShift1024Star =>
    exact agreeBelow_of_stepRotating (k := Rom.xorShift1024Star) (by decide) (by decide) (by decide) hP h
  | xorShift1024StarPhi =>
    exact agreeBelow_of_stepRotating (k := Rom.xorShift1024StarPhi) (by decide) (by decide) (by decide) hP h
  | xorShift4096Star =>
    exact agreeBelow_of_stepRotating (k := Rom.xorShift4096Star) (by decide) (by decide) (by decide) hP h

end Sys2Proof.Machine
end

section
/-! PROOF. The state step of every variant, one statement across 41_splitmix64.md to 45_rotating_buffer.md. -/

namespace Sys2Proof.Proofs

open Sys2Proof.Machine

/-- Settles O42: R415, R435, R445, R454, variant by variant (`agreeBelow_of_stepVar`). -/
theorem stateStepIsInjective : Obligations.StateStepIsInjective :=
  fun v _ _ _ hP h => agreeBelow_of_stepVar v hP h

end Sys2Proof.Proofs
end
